-- ==== Sys2Proof/Word.lean ====
section
/-! DEFINITION. The two widths of the machine: the byte, its addressable unit (R61), and the 16-bit word, the
width of every register and of every address (R20, R60). -/

namespace Sys2Proof

/-- One byte of memory or of an instruction (R61). -/
abbrev Byte := BitVec 8

/-- A register value, an address or a word of memory: 16 bits (R20, R60). -/
abbrev Word := BitVec 16

end Sys2Proof
end

