-- ==== Sys2Proof/Syntax.lean ====
section
/-! DEFINITION. The instructions: one constructor per row of spec/opcode_table.json (R95 and the 18 descriptor rows
of R106, R107), and the form of each, its operation and operands as R96 to R107 name them. -/

namespace Sys2Proof

/-- A general register (R20). -/
inductive Reg
  | r0
  | r1
  | r2
  | r3
  deriving DecidableEq, Repr

/-- The suffix of a load or store (R67): `.w` moves 16 bits, `.b` moves 8. -/
inductive Width
  | word
  | byte
  deriving DecidableEq, Repr

/-- The addressing modes of loads and stores (R187). -/
inductive EA
  /-- `(RI)`, register indirect: the table has R2 and R3 only (R98). -/
  | ind (r : Reg)
  /-- `(RI++)`, post-increment: the table has R2 and R3 only (R98, R189). -/
  | postInc (r : Reg)
  /-- `(SP+m)`, m an unsigned byte (R99). -/
  | spRel (m : Byte)
  /-- `addr`, absolute (R99). -/
  | abs (addr : Word)
  deriving DecidableEq, Repr

/-- The four kinds of shift (R106, R236). -/
inductive ShiftKind
  /-- LSL, LSR -/
  | logical
  /-- ASL, ASR -/
  | arithmetic
  /-- ROL, ROR -/
  | rotate
  /-- ROXL, ROXR -/
  | rotateCarry
  deriving DecidableEq, Repr

/-- Where a shift count comes from (R106, R234, R235): five bits of the descriptor, or a register. -/
inductive ShiftCount
  | imm (c : BitVec 5)
  | reg (b : Reg)
  deriving DecidableEq, Repr

/-- The three bit operations (R107). -/
inductive BitOp
  | bchg
  | bclr
  | bset
  deriving DecidableEq, Repr

/-- Where a bit number comes from (R107, R233). -/
inductive BitSel
  | imm (n : BitVec 4)
  | reg (b : Reg)
  deriving DecidableEq, Repr

/-- The sixteen branch conditions, in the order of their numbers (R102). -/
inductive Cond
  | cc
  | cs
  | ne
  | eq
  | vc
  | vs
  | pl
  | mi
  | ge
  | lt
  | gt
  | le
  | uc
  | us
  | hi
  | ls
  deriving DecidableEq, Repr

/-- The instructions, one constructor per row of the opcode table, with the operand bytes that follow the opcode as
arguments: the first-byte rows 0x80 to 0xFF, the 18 second-byte rows of shift and bit instructions, then the first-byte
rows 0x00 to 0x7F (constructors with arguments come early, as Lean's compiler asks of a long list).
`shiftR0Descr` to `bitR3Descr` carry a raw descriptor byte; the decoder gives them only the descriptors that no row of
the 18 covers, which are the reserved ones (R110; log 10). -/
inductive Instr
  /-- 0x80 `ld.w r0,(r2)` (R170) -/
  | ldwR0IndR2
  /-- 0x81 `ld.w r1,(r2)` (R170) -/
  | ldwR1IndR2
  /-- 0x82 `ld.w r0,(r3)` (R170) -/
  | ldwR0IndR3
  /-- 0x83 `ld.w r1,(r3)` (R170) -/
  | ldwR1IndR3
  /-- 0x84 `ld.b r0,(r2)` (R171) -/
  | ldbR0IndR2
  /-- 0x85 `ld.b r1,(r2)` (R171) -/
  | ldbR1IndR2
  /-- 0x86 `ld.b r0,(r3)` (R171) -/
  | ldbR0IndR3
  /-- 0x87 `ld.b r1,(r3)` (R171) -/
  | ldbR1IndR3
  /-- 0x88 `st.w (r2),r0` (R172) -/
  | stwIndR2R0
  /-- 0x89 `st.w (r2),r1` (R172) -/
  | stwIndR2R1
  /-- 0x8A `st.w (r3),r0` (R172) -/
  | stwIndR3R0
  /-- 0x8B `st.w (r3),r1` (R172) -/
  | stwIndR3R1
  /-- 0x8C `st.b (r2),r0` (R173) -/
  | stbIndR2R0
  /-- 0x8D `st.b (r2),r1` (R173) -/
  | stbIndR2R1
  /-- 0x8E `st.b (r3),r0` (R173) -/
  | stbIndR3R0
  /-- 0x8F `st.b (r3),r1` (R173) -/
  | stbIndR3R1
  /-- 0x90 `ld.w r0,(r2++)` (R174) -/
  | ldwR0IncR2
  /-- 0x91 `ld.w r1,(r2++)` (R174) -/
  | ldwR1IncR2
  /-- 0x92 `ld.w r0,(r3++)` (R174) -/
  | ldwR0IncR3
  /-- 0x93 `ld.w r1,(r3++)` (R174) -/
  | ldwR1IncR3
  /-- 0x94 `ld.b r0,(r2++)` (R175) -/
  | ldbR0IncR2
  /-- 0x95 `ld.b r1,(r2++)` (R175) -/
  | ldbR1IncR2
  /-- 0x96 `ld.b r0,(r3++)` (R175) -/
  | ldbR0IncR3
  /-- 0x97 `ld.b r1,(r3++)` (R175) -/
  | ldbR1IncR3
  /-- 0x98 `st.w (r2++),r0` (R176) -/
  | stwIncR2R0
  /-- 0x99 `st.w (r2++),r1` (R176) -/
  | stwIncR2R1
  /-- 0x9A `st.w (r3++),r0` (R176) -/
  | stwIncR3R0
  /-- 0x9B `st.w (r3++),r1` (R176) -/
  | stwIncR3R1
  /-- 0x9C `st.b (r2++),r0` (R177) -/
  | stbIncR2R0
  /-- 0x9D `st.b (r2++),r1` (R177) -/
  | stbIncR2R1
  /-- 0x9E `st.b (r3++),r0` (R177) -/
  | stbIncR3R0
  /-- 0x9F `st.b (r3++),r1` (R177) -/
  | stbIncR3R1
  /-- 0xA0 `ld.w r0,(sp+m)` (R178) -/
  | ldwR0Sp (m : Byte)
  /-- 0xA1 `ld.w r1,(sp+m)` (R178) -/
  | ldwR1Sp (m : Byte)
  /-- 0xA2 `ld.w r2,(sp+m)` (R178) -/
  | ldwR2Sp (m : Byte)
  /-- 0xA3 `ld.w r3,(sp+m)` (R178) -/
  | ldwR3Sp (m : Byte)
  /-- 0xA4 `ld.b r0,(sp+m)` (R179) -/
  | ldbR0Sp (m : Byte)
  /-- 0xA5 `ld.b r1,(sp+m)` (R179) -/
  | ldbR1Sp (m : Byte)
  /-- 0xA6 `ld.b r2,(sp+m)` (R179) -/
  | ldbR2Sp (m : Byte)
  /-- 0xA7 `ld.b r3,(sp+m)` (R179) -/
  | ldbR3Sp (m : Byte)
  /-- 0xA8 `st.w (sp+m),r0` (R180) -/
  | stwSpR0 (m : Byte)
  /-- 0xA9 `st.w (sp+m),r1` (R180) -/
  | stwSpR1 (m : Byte)
  /-- 0xAA `st.w (sp+m),r2` (R180) -/
  | stwSpR2 (m : Byte)
  /-- 0xAB `st.w (sp+m),r3` (R180) -/
  | stwSpR3 (m : Byte)
  /-- 0xAC `st.b (sp+m),r0` (R181) -/
  | stbSpR0 (m : Byte)
  /-- 0xAD `st.b (sp+m),r1` (R181) -/
  | stbSpR1 (m : Byte)
  /-- 0xAE `st.b (sp+m),r2` (R181) -/
  | stbSpR2 (m : Byte)
  /-- 0xAF `st.b (sp+m),r3` (R181) -/
  | stbSpR3 (m : Byte)
  /-- 0xB0 `ld.w r0,addr` (R182) -/
  | ldwR0Abs (addr : Word)
  /-- 0xB1 `ld.w r1,addr` (R182) -/
  | ldwR1Abs (addr : Word)
  /-- 0xB2 `ld.w r2,addr` (R182) -/
  | ldwR2Abs (addr : Word)
  /-- 0xB3 `ld.w r3,addr` (R182) -/
  | ldwR3Abs (addr : Word)
  /-- 0xB4 `ld.b r0,addr` (R183) -/
  | ldbR0Abs (addr : Word)
  /-- 0xB5 `ld.b r1,addr` (R183) -/
  | ldbR1Abs (addr : Word)
  /-- 0xB6 `ld.b r2,addr` (R183) -/
  | ldbR2Abs (addr : Word)
  /-- 0xB7 `ld.b r3,addr` (R183) -/
  | ldbR3Abs (addr : Word)
  /-- 0xB8 `st.w addr,r0` (R184) -/
  | stwAbsR0 (addr : Word)
  /-- 0xB9 `st.w addr,r1` (R184) -/
  | stwAbsR1 (addr : Word)
  /-- 0xBA `st.w addr,r2` (R184) -/
  | stwAbsR2 (addr : Word)
  /-- 0xBB `st.w addr,r3` (R184) -/
  | stwAbsR3 (addr : Word)
  /-- 0xBC `st.b addr,r0` (R185) -/
  | stbAbsR0 (addr : Word)
  /-- 0xBD `st.b addr,r1` (R185) -/
  | stbAbsR1 (addr : Word)
  /-- 0xBE `st.b addr,r2` (R185) -/
  | stbAbsR2 (addr : Word)
  /-- 0xBF `st.b addr,r3` (R185) -/
  | stbAbsR3 (addr : Word)
  /-- 0xC0 `pop r0` (R200) -/
  | popR0
  /-- 0xC1 `pop r1` (R200) -/
  | popR1
  /-- 0xC2 `pop r2` (R200) -/
  | popR2
  /-- 0xC3 `pop r3` (R200) -/
  | popR3
  /-- 0xC4 `pop ps` (R201) -/
  | popPs
  /-- 0xC5 `nop (0xC5)` (R202) -/
  | nopC5
  /-- 0xC6 `ret` (R203) -/
  | ret
  /-- 0xC7 `reti` (R205) -/
  | reti
  /-- 0xC8 `push r0` (R206) -/
  | pushR0
  /-- 0xC9 `push r1` (R206) -/
  | pushR1
  /-- 0xCA `push r2` (R206) -/
  | pushR2
  /-- 0xCB `push r3` (R206) -/
  | pushR3
  /-- 0xCC `push ps` (R207) -/
  | pushPs
  /-- 0xCD `trap #n` (R208) -/
  | trap (n : Byte)
  /-- 0xCE `jsr (r0)` (R209) -/
  | jsrR0
  /-- 0xCF `jsr addr` (R210) -/
  | jsrAddr (addr : Word)
  /-- 0xD0 `ld.w r0,#data16` (R230) -/
  | ldwR0Imm (data : Word)
  /-- 0xD1 `ld.w r1,#data16` (R230) -/
  | ldwR1Imm (data : Word)
  /-- 0xD2 `ld.w r2,#data16` (R230) -/
  | ldwR2Imm (data : Word)
  /-- 0xD3 `ld.w r3,#data16` (R230) -/
  | ldwR3Imm (data : Word)
  /-- 0xD4 `ld.b r0,#data8` (R231) -/
  | ldbR0Imm (data : Byte)
  /-- 0xD5 `ld.b r1,#data8` (R231) -/
  | ldbR1Imm (data : Byte)
  /-- 0xD6 `ld.b r2,#data8` (R231) -/
  | ldbR2Imm (data : Byte)
  /-- 0xD7 `ld.b r3,#data8` (R231) -/
  | ldbR3Imm (data : Byte)
  /-- 0xD8 `shift r0,descr` (R232) -/
  | shiftR0Descr (d : Byte)
  /-- 0xD9 `shift r1,descr` (R232) -/
  | shiftR1Descr (d : Byte)
  /-- 0xDA `shift r2,descr` (R232) -/
  | shiftR2Descr (d : Byte)
  /-- 0xDB `shift r3,descr` (R232) -/
  | shiftR3Descr (d : Byte)
  /-- 0xDC `bit r0,descr` (R233) -/
  | bitR0Descr (d : Byte)
  /-- 0xDD `bit r1,descr` (R233) -/
  | bitR1Descr (d : Byte)
  /-- 0xDE `bit r2,descr` (R233) -/
  | bitR2Descr (d : Byte)
  /-- 0xDF `bit r3,descr` (R233) -/
  | bitR3Descr (d : Byte)
  /-- 0xE0 `bcc dd` (R271) -/
  | bcc (dd : Byte)
  /-- 0xE1 `bcs dd` (R272) -/
  | bcs (dd : Byte)
  /-- 0xE2 `bne dd` (R273) -/
  | bne (dd : Byte)
  /-- 0xE3 `beq dd` (R274) -/
  | beq (dd : Byte)
  /-- 0xE4 `bvc dd` (R275) -/
  | bvc (dd : Byte)
  /-- 0xE5 `bvs dd` (R276) -/
  | bvs (dd : Byte)
  /-- 0xE6 `bpl dd` (R277) -/
  | bpl (dd : Byte)
  /-- 0xE7 `bmi dd` (R278) -/
  | bmi (dd : Byte)
  /-- 0xE8 `bge dd` (R279) -/
  | bge (dd : Byte)
  /-- 0xE9 `blt dd` (R280) -/
  | blt (dd : Byte)
  /-- 0xEA `bgt dd` (R281) -/
  | bgt (dd : Byte)
  /-- 0xEB `ble dd` (R282) -/
  | ble (dd : Byte)
  /-- 0xEC `buc dd` (R283) -/
  | buc (dd : Byte)
  /-- 0xED `bus dd` (R284) -/
  | bus (dd : Byte)
  /-- 0xEE `bhi dd` (R285) -/
  | bhi (dd : Byte)
  /-- 0xEF `bls dd` (R286) -/
  | bls (dd : Byte)
  /-- 0xF0 `move r0,sp` (R300) -/
  | moveR0Sp
  /-- 0xF1 `move sp,r0` (R301) -/
  | moveSpR0
  /-- 0xF2 `jmp (r0)` (R302) -/
  | jmpR0
  /-- 0xF3 `jmp addr` (R303) -/
  | jmpAddr (addr : Word)
  /-- 0xF4 `andi ps,#data8` (R304) -/
  | andiPs (data : Byte)
  /-- 0xF5 `ori ps,#data8` (R305) -/
  | oriPs (data : Byte)
  /-- 0xF6 `addi sp,#data8` (R306) -/
  | addiSp (data : Byte)
  /-- 0xF7 `sqrt` (R307) -/
  | sqrt
  /-- 0xF8 `mulu` (R308) -/
  | mulu
  /-- 0xF9 `muls` (R309) -/
  | muls
  /-- 0xFA `divu` (R310) -/
  | divu
  /-- 0xFB `divs` (R311) -/
  | divs
  /-- 0xFC `addx r0,r1` (R312) -/
  | addx
  /-- 0xFD `subx r0,r1` (R313) -/
  | subx
  /-- 0xFE `negx r0` (R314) -/
  | negx
  /-- 0xFF `nop` (R315) -/
  | nop
  /-- 110110aa 0000nnnn `lsl rA,#n` (R240) -/
  | lslImm (a : Reg) (n : BitVec 4)
  /-- 110110aa 0001nnnn `lsr rA,#n` (R241) -/
  | lsrImm (a : Reg) (n : BitVec 4)
  /-- 110110aa 001000bb `lsl/lsr rA,rB` (R235) -/
  | lsReg (a : Reg) (b : Reg)
  /-- 110110aa 0100nnnn `asl rA,#n` (R238) -/
  | aslImm (a : Reg) (n : BitVec 4)
  /-- 110110aa 0101nnnn `asr rA,#n` (R239) -/
  | asrImm (a : Reg) (n : BitVec 4)
  /-- 110110aa 011000bb `asl/asr rA,rB` (R235) -/
  | asReg (a : Reg) (b : Reg)
  /-- 110110aa 1000nnnn `rol rA,#n` (R242) -/
  | rolImm (a : Reg) (n : BitVec 4)
  /-- 110110aa 1001nnnn `ror rA,#n` (R243) -/
  | rorImm (a : Reg) (n : BitVec 4)
  /-- 110110aa 101000bb `rol/ror rA,rB` (R235) -/
  | roReg (a : Reg) (b : Reg)
  /-- 110110aa 1100nnnn `roxl rA,#n` (R244) -/
  | roxlImm (a : Reg) (n : BitVec 4)
  /-- 110110aa 1101nnnn `roxr rA,#n` (R245) -/
  | roxrImm (a : Reg) (n : BitVec 4)
  /-- 110110aa 111000bb `roxl/roxr rA,rB` (R235) -/
  | roxReg (a : Reg) (b : Reg)
  /-- 110111aa 0100nnnn `bchg rA,#n` (R249) -/
  | bchgImm (a : Reg) (n : BitVec 4)
  /-- 110111aa 011000bb `bchg rA,rB` (R249) -/
  | bchgReg (a : Reg) (b : Reg)
  /-- 110111aa 1000nnnn `bclr rA,#n` (R248) -/
  | bclrImm (a : Reg) (n : BitVec 4)
  /-- 110111aa 101000bb `bclr rA,rB` (R248) -/
  | bclrReg (a : Reg) (b : Reg)
  /-- 110111aa 1100nnnn `bset rA,#n` (R247) -/
  | bsetImm (a : Reg) (n : BitVec 4)
  /-- 110111aa 111000bb `bset rA,rB` (R247) -/
  | bsetReg (a : Reg) (b : Reg)
  /-- 0x00 `sxt r0` (R130) -/
  | sxtR0
  /-- 0x01 `move r1,r0` (R131) -/
  | moveR1R0
  /-- 0x02 `move r2,r0` (R131) -/
  | moveR2R0
  /-- 0x03 `move r3,r0` (R131) -/
  | moveR3R0
  /-- 0x04 `move r0,r1` (R131) -/
  | moveR0R1
  /-- 0x05 `sxt r1` (R130) -/
  | sxtR1
  /-- 0x06 `move r2,r1` (R131) -/
  | moveR2R1
  /-- 0x07 `move r3,r1` (R131) -/
  | moveR3R1
  /-- 0x08 `move r0,r2` (R131) -/
  | moveR0R2
  /-- 0x09 `move r1,r2` (R131) -/
  | moveR1R2
  /-- 0x0A `sxt r2` (R130) -/
  | sxtR2
  /-- 0x0B `move r3,r2` (R131) -/
  | moveR3R2
  /-- 0x0C `move r0,r3` (R131) -/
  | moveR0R3
  /-- 0x0D `move r1,r3` (R131) -/
  | moveR1R3
  /-- 0x0E `move r2,r3` (R131) -/
  | moveR2R3
  /-- 0x0F `sxt r3` (R130) -/
  | sxtR3
  /-- 0x10 `test r0` (R132) -/
  | testR0
  /-- 0x11 `and r1,r0` (R133) -/
  | andR1R0
  /-- 0x12 `and r2,r0` (R133) -/
  | andR2R0
  /-- 0x13 `and r3,r0` (R133) -/
  | andR3R0
  /-- 0x14 `and r0,r1` (R133) -/
  | andR0R1
  /-- 0x15 `test r1` (R132) -/
  | testR1
  /-- 0x16 `and r2,r1` (R133) -/
  | andR2R1
  /-- 0x17 `and r3,r1` (R133) -/
  | andR3R1
  /-- 0x18 `and r0,r2` (R133) -/
  | andR0R2
  /-- 0x19 `and r1,r2` (R133) -/
  | andR1R2
  /-- 0x1A `test r2` (R132) -/
  | testR2
  /-- 0x1B `and r3,r2` (R133) -/
  | andR3R2
  /-- 0x1C `and r0,r3` (R133) -/
  | andR0R3
  /-- 0x1D `and r1,r3` (R133) -/
  | andR1R3
  /-- 0x1E `and r2,r3` (R133) -/
  | andR2R3
  /-- 0x1F `test r3` (R132) -/
  | testR3
  /-- 0x20 `xor r0,r0` (R134) -/
  | xorR0R0
  /-- 0x21 `xor r1,r0` (R134) -/
  | xorR1R0
  /-- 0x22 `xor r2,r0` (R134) -/
  | xorR2R0
  /-- 0x23 `xor r3,r0` (R134) -/
  | xorR3R0
  /-- 0x24 `xor r0,r1` (R134) -/
  | xorR0R1
  /-- 0x25 `xor r1,r1` (R134) -/
  | xorR1R1
  /-- 0x26 `xor r2,r1` (R134) -/
  | xorR2R1
  /-- 0x27 `xor r3,r1` (R134) -/
  | xorR3R1
  /-- 0x28 `xor r0,r2` (R134) -/
  | xorR0R2
  /-- 0x29 `xor r1,r2` (R134) -/
  | xorR1R2
  /-- 0x2A `xor r2,r2` (R134) -/
  | xorR2R2
  /-- 0x2B `xor r3,r2` (R134) -/
  | xorR3R2
  /-- 0x2C `xor r0,r3` (R134) -/
  | xorR0R3
  /-- 0x2D `xor r1,r3` (R134) -/
  | xorR1R3
  /-- 0x2E `xor r2,r3` (R134) -/
  | xorR2R3
  /-- 0x2F `xor r3,r3` (R134) -/
  | xorR3R3
  /-- 0x30 `inv r0` (R135) -/
  | invR0
  /-- 0x31 `or r1,r0` (R136) -/
  | orR1R0
  /-- 0x32 `or r2,r0` (R136) -/
  | orR2R0
  /-- 0x33 `or r3,r0` (R136) -/
  | orR3R0
  /-- 0x34 `or r0,r1` (R136) -/
  | orR0R1
  /-- 0x35 `inv r1` (R135) -/
  | invR1
  /-- 0x36 `or r2,r1` (R136) -/
  | orR2R1
  /-- 0x37 `or r3,r1` (R136) -/
  | orR3R1
  /-- 0x38 `or r0,r2` (R136) -/
  | orR0R2
  /-- 0x39 `or r1,r2` (R136) -/
  | orR1R2
  /-- 0x3A `inv r2` (R135) -/
  | invR2
  /-- 0x3B `or r3,r2` (R136) -/
  | orR3R2
  /-- 0x3C `or r0,r3` (R136) -/
  | orR0R3
  /-- 0x3D `or r1,r3` (R136) -/
  | orR1R3
  /-- 0x3E `or r2,r3` (R136) -/
  | orR2R3
  /-- 0x3F `inv r3` (R135) -/
  | invR3
  /-- 0x40 `add r0,r0` (R138) -/
  | addR0R0
  /-- 0x41 `add r1,r0` (R138) -/
  | addR1R0
  /-- 0x42 `add r2,r0` (R138) -/
  | addR2R0
  /-- 0x43 `add r3,r0` (R138) -/
  | addR3R0
  /-- 0x44 `add r0,r1` (R138) -/
  | addR0R1
  /-- 0x45 `add r1,r1` (R138) -/
  | addR1R1
  /-- 0x46 `add r2,r1` (R138) -/
  | addR2R1
  /-- 0x47 `add r3,r1` (R138) -/
  | addR3R1
  /-- 0x48 `add r0,r2` (R138) -/
  | addR0R2
  /-- 0x49 `add r1,r2` (R138) -/
  | addR1R2
  /-- 0x4A `add r2,r2` (R138) -/
  | addR2R2
  /-- 0x4B `add r3,r2` (R138) -/
  | addR3R2
  /-- 0x4C `add r0,r3` (R138) -/
  | addR0R3
  /-- 0x4D `add r1,r3` (R138) -/
  | addR1R3
  /-- 0x4E `add r2,r3` (R138) -/
  | addR2R3
  /-- 0x4F `add r3,r3` (R138) -/
  | addR3R3
  /-- 0x50 `addq r0,#2` (R141) -/
  | addqR0S0
  /-- 0x51 `addq r1,#2` (R141) -/
  | addqR1S0
  /-- 0x52 `addq r2,#2` (R141) -/
  | addqR2S0
  /-- 0x53 `addq r3,#2` (R141) -/
  | addqR3S0
  /-- 0x54 `addq r0,#1` (R141) -/
  | addqR0S1
  /-- 0x55 `addq r1,#1` (R141) -/
  | addqR1S1
  /-- 0x56 `addq r2,#1` (R141) -/
  | addqR2S1
  /-- 0x57 `addq r3,#1` (R141) -/
  | addqR3S1
  /-- 0x58 `addq r0,#-2` (R141) -/
  | addqR0S2
  /-- 0x59 `addq r1,#-2` (R141) -/
  | addqR1S2
  /-- 0x5A `addq r2,#-2` (R141) -/
  | addqR2S2
  /-- 0x5B `addq r3,#-2` (R141) -/
  | addqR3S2
  /-- 0x5C `addq r0,#-1` (R141) -/
  | addqR0S3
  /-- 0x5D `addq r1,#-1` (R141) -/
  | addqR1S3
  /-- 0x5E `addq r2,#-1` (R141) -/
  | addqR2S3
  /-- 0x5F `addq r3,#-1` (R141) -/
  | addqR3S3
  /-- 0x60 `neg r0` (R143) -/
  | negR0
  /-- 0x61 `sub r1,r0` (R142) -/
  | subR1R0
  /-- 0x62 `sub r2,r0` (R142) -/
  | subR2R0
  /-- 0x63 `sub r3,r0` (R142) -/
  | subR3R0
  /-- 0x64 `sub r0,r1` (R142) -/
  | subR0R1
  /-- 0x65 `neg r1` (R143) -/
  | negR1
  /-- 0x66 `sub r2,r1` (R142) -/
  | subR2R1
  /-- 0x67 `sub r3,r1` (R142) -/
  | subR3R1
  /-- 0x68 `sub r0,r2` (R142) -/
  | subR0R2
  /-- 0x69 `sub r1,r2` (R142) -/
  | subR1R2
  /-- 0x6A `neg r2` (R143) -/
  | negR2
  /-- 0x6B `sub r3,r2` (R142) -/
  | subR3R2
  /-- 0x6C `sub r0,r3` (R142) -/
  | subR0R3
  /-- 0x6D `sub r1,r3` (R142) -/
  | subR1R3
  /-- 0x6E `sub r2,r3` (R142) -/
  | subR2R3
  /-- 0x6F `neg r3` (R143) -/
  | negR3
  /-- 0x70 `abs r0` (R144) -/
  | absR0
  /-- 0x71 `cmp r1,r0` (R145) -/
  | cmpR1R0
  /-- 0x72 `cmp r2,r0` (R145) -/
  | cmpR2R0
  /-- 0x73 `cmp r3,r0` (R145) -/
  | cmpR3R0
  /-- 0x74 `cmp r0,r1` (R145) -/
  | cmpR0R1
  /-- 0x75 `abs r1` (R144) -/
  | absR1
  /-- 0x76 `cmp r2,r1` (R145) -/
  | cmpR2R1
  /-- 0x77 `cmp r3,r1` (R145) -/
  | cmpR3R1
  /-- 0x78 `cmp r0,r2` (R145) -/
  | cmpR0R2
  /-- 0x79 `cmp r1,r2` (R145) -/
  | cmpR1R2
  /-- 0x7A `abs r2` (R144) -/
  | absR2
  /-- 0x7B `cmp r3,r2` (R145) -/
  | cmpR3R2
  /-- 0x7C `cmp r0,r3` (R145) -/
  | cmpR0R3
  /-- 0x7D `cmp r1,r3` (R145) -/
  | cmpR1R3
  /-- 0x7E `cmp r2,r3` (R145) -/
  | cmpR2R3
  /-- 0x7F `abs r3` (R144) -/
  | absR3
  deriving DecidableEq, Repr

/-- What an instruction is, its registers and operands as fields (R96 to R107). -/
inductive Form
  | sxt (a : Reg)
  | move (a b : Reg)
  | test (a : Reg)
  | and (a b : Reg)
  | xor (a b : Reg)
  | inv (a : Reg)
  | or (a b : Reg)
  | add (a b : Reg)
  | addq (a : Reg) (sel : BitVec 2)
  | neg (a : Reg)
  | sub (a b : Reg)
  | abs (a : Reg)
  | cmp (a b : Reg)
  | load (w : Width) (d : Reg) (ea : EA)
  | store (w : Width) (ea : EA) (d : Reg)
  | pop (a : Reg)
  | popPs
  | nopC5
  | ret
  | reti
  | push (a : Reg)
  | pushPs
  | trap (n : Byte)
  | jsrR0
  | jsrAddr (addr : Word)
  | loadImmW (a : Reg) (data : Word)
  | loadImmB (a : Reg) (data : Byte)
  | shiftRaw (a : Reg) (d : Byte)
  | bitRaw (a : Reg) (d : Byte)
  | shift (a : Reg) (k : ShiftKind) (c : ShiftCount)
  | bit (a : Reg) (op : BitOp) (n : BitSel)
  | branch (c : Cond) (dd : Byte)
  | moveR0Sp
  | moveSpR0
  | jmpR0
  | jmpAddr (addr : Word)
  | andiPs (data : Byte)
  | oriPs (data : Byte)
  | addiSp (data : Byte)
  | sqrt
  | mulu
  | muls
  | divu
  | divs
  | addx
  | subx
  | negx
  | nop
  deriving DecidableEq, Repr

/-- The form of each instruction: the fields its row of the opcode table names. -/
def Instr.form : Instr → Form
  | .ldwR0IndR2 => .load .word .r0 (.ind .r2)
  | .ldwR1IndR2 => .load .word .r1 (.ind .r2)
  | .ldwR0IndR3 => .load .word .r0 (.ind .r3)
  | .ldwR1IndR3 => .load .word .r1 (.ind .r3)
  | .ldbR0IndR2 => .load .byte .r0 (.ind .r2)
  | .ldbR1IndR2 => .load .byte .r1 (.ind .r2)
  | .ldbR0IndR3 => .load .byte .r0 (.ind .r3)
  | .ldbR1IndR3 => .load .byte .r1 (.ind .r3)
  | .stwIndR2R0 => .store .word (.ind .r2) .r0
  | .stwIndR2R1 => .store .word (.ind .r2) .r1
  | .stwIndR3R0 => .store .word (.ind .r3) .r0
  | .stwIndR3R1 => .store .word (.ind .r3) .r1
  | .stbIndR2R0 => .store .byte (.ind .r2) .r0
  | .stbIndR2R1 => .store .byte (.ind .r2) .r1
  | .stbIndR3R0 => .store .byte (.ind .r3) .r0
  | .stbIndR3R1 => .store .byte (.ind .r3) .r1
  | .ldwR0IncR2 => .load .word .r0 (.postInc .r2)
  | .ldwR1IncR2 => .load .word .r1 (.postInc .r2)
  | .ldwR0IncR3 => .load .word .r0 (.postInc .r3)
  | .ldwR1IncR3 => .load .word .r1 (.postInc .r3)
  | .ldbR0IncR2 => .load .byte .r0 (.postInc .r2)
  | .ldbR1IncR2 => .load .byte .r1 (.postInc .r2)
  | .ldbR0IncR3 => .load .byte .r0 (.postInc .r3)
  | .ldbR1IncR3 => .load .byte .r1 (.postInc .r3)
  | .stwIncR2R0 => .store .word (.postInc .r2) .r0
  | .stwIncR2R1 => .store .word (.postInc .r2) .r1
  | .stwIncR3R0 => .store .word (.postInc .r3) .r0
  | .stwIncR3R1 => .store .word (.postInc .r3) .r1
  | .stbIncR2R0 => .store .byte (.postInc .r2) .r0
  | .stbIncR2R1 => .store .byte (.postInc .r2) .r1
  | .stbIncR3R0 => .store .byte (.postInc .r3) .r0
  | .stbIncR3R1 => .store .byte (.postInc .r3) .r1
  | .ldwR0Sp m => .load .word .r0 (.spRel m)
  | .ldwR1Sp m => .load .word .r1 (.spRel m)
  | .ldwR2Sp m => .load .word .r2 (.spRel m)
  | .ldwR3Sp m => .load .word .r3 (.spRel m)
  | .ldbR0Sp m => .load .byte .r0 (.spRel m)
  | .ldbR1Sp m => .load .byte .r1 (.spRel m)
  | .ldbR2Sp m => .load .byte .r2 (.spRel m)
  | .ldbR3Sp m => .load .byte .r3 (.spRel m)
  | .stwSpR0 m => .store .word (.spRel m) .r0
  | .stwSpR1 m => .store .word (.spRel m) .r1
  | .stwSpR2 m => .store .word (.spRel m) .r2
  | .stwSpR3 m => .store .word (.spRel m) .r3
  | .stbSpR0 m => .store .byte (.spRel m) .r0
  | .stbSpR1 m => .store .byte (.spRel m) .r1
  | .stbSpR2 m => .store .byte (.spRel m) .r2
  | .stbSpR3 m => .store .byte (.spRel m) .r3
  | .ldwR0Abs addr => .load .word .r0 (.abs addr)
  | .ldwR1Abs addr => .load .word .r1 (.abs addr)
  | .ldwR2Abs addr => .load .word .r2 (.abs addr)
  | .ldwR3Abs addr => .load .word .r3 (.abs addr)
  | .ldbR0Abs addr => .load .byte .r0 (.abs addr)
  | .ldbR1Abs addr => .load .byte .r1 (.abs addr)
  | .ldbR2Abs addr => .load .byte .r2 (.abs addr)
  | .ldbR3Abs addr => .load .byte .r3 (.abs addr)
  | .stwAbsR0 addr => .store .word (.abs addr) .r0
  | .stwAbsR1 addr => .store .word (.abs addr) .r1
  | .stwAbsR2 addr => .store .word (.abs addr) .r2
  | .stwAbsR3 addr => .store .word (.abs addr) .r3
  | .stbAbsR0 addr => .store .byte (.abs addr) .r0
  | .stbAbsR1 addr => .store .byte (.abs addr) .r1
  | .stbAbsR2 addr => .store .byte (.abs addr) .r2
  | .stbAbsR3 addr => .store .byte (.abs addr) .r3
  | .popR0 => .pop .r0
  | .popR1 => .pop .r1
  | .popR2 => .pop .r2
  | .popR3 => .pop .r3
  | .popPs => .popPs
  | .nopC5 => .nopC5
  | .ret => .ret
  | .reti => .reti
  | .pushR0 => .push .r0
  | .pushR1 => .push .r1
  | .pushR2 => .push .r2
  | .pushR3 => .push .r3
  | .pushPs => .pushPs
  | .trap n => .trap n
  | .jsrR0 => .jsrR0
  | .jsrAddr addr => .jsrAddr addr
  | .ldwR0Imm data => .loadImmW .r0 data
  | .ldwR1Imm data => .loadImmW .r1 data
  | .ldwR2Imm data => .loadImmW .r2 data
  | .ldwR3Imm data => .loadImmW .r3 data
  | .ldbR0Imm data => .loadImmB .r0 data
  | .ldbR1Imm data => .loadImmB .r1 data
  | .ldbR2Imm data => .loadImmB .r2 data
  | .ldbR3Imm data => .loadImmB .r3 data
  | .shiftR0Descr d => .shiftRaw .r0 d
  | .shiftR1Descr d => .shiftRaw .r1 d
  | .shiftR2Descr d => .shiftRaw .r2 d
  | .shiftR3Descr d => .shiftRaw .r3 d
  | .bitR0Descr d => .bitRaw .r0 d
  | .bitR1Descr d => .bitRaw .r1 d
  | .bitR2Descr d => .bitRaw .r2 d
  | .bitR3Descr d => .bitRaw .r3 d
  | .bcc dd => .branch .cc dd
  | .bcs dd => .branch .cs dd
  | .bne dd => .branch .ne dd
  | .beq dd => .branch .eq dd
  | .bvc dd => .branch .vc dd
  | .bvs dd => .branch .vs dd
  | .bpl dd => .branch .pl dd
  | .bmi dd => .branch .mi dd
  | .bge dd => .branch .ge dd
  | .blt dd => .branch .lt dd
  | .bgt dd => .branch .gt dd
  | .ble dd => .branch .le dd
  | .buc dd => .branch .uc dd
  | .bus dd => .branch .us dd
  | .bhi dd => .branch .hi dd
  | .bls dd => .branch .ls dd
  | .moveR0Sp => .moveR0Sp
  | .moveSpR0 => .moveSpR0
  | .jmpR0 => .jmpR0
  | .jmpAddr addr => .jmpAddr addr
  | .andiPs data => .andiPs data
  | .oriPs data => .oriPs data
  | .addiSp data => .addiSp data
  | .sqrt => .sqrt
  | .mulu => .mulu
  | .muls => .muls
  | .divu => .divu
  | .divs => .divs
  | .addx => .addx
  | .subx => .subx
  | .negx => .negx
  | .nop => .nop
  | .lslImm a n => .shift a .logical (.imm (0#1 ++ n))
  | .lsrImm a n => .shift a .logical (.imm (1#1 ++ n))
  | .lsReg a b => .shift a .logical (.reg b)
  | .aslImm a n => .shift a .arithmetic (.imm (0#1 ++ n))
  | .asrImm a n => .shift a .arithmetic (.imm (1#1 ++ n))
  | .asReg a b => .shift a .arithmetic (.reg b)
  | .rolImm a n => .shift a .rotate (.imm (0#1 ++ n))
  | .rorImm a n => .shift a .rotate (.imm (1#1 ++ n))
  | .roReg a b => .shift a .rotate (.reg b)
  | .roxlImm a n => .shift a .rotateCarry (.imm (0#1 ++ n))
  | .roxrImm a n => .shift a .rotateCarry (.imm (1#1 ++ n))
  | .roxReg a b => .shift a .rotateCarry (.reg b)
  | .bchgImm a n => .bit a .bchg (.imm n)
  | .bchgReg a b => .bit a .bchg (.reg b)
  | .bclrImm a n => .bit a .bclr (.imm n)
  | .bclrReg a b => .bit a .bclr (.reg b)
  | .bsetImm a n => .bit a .bset (.imm n)
  | .bsetReg a b => .bit a .bset (.reg b)
  | .sxtR0 => .sxt .r0
  | .moveR1R0 => .move .r1 .r0
  | .moveR2R0 => .move .r2 .r0
  | .moveR3R0 => .move .r3 .r0
  | .moveR0R1 => .move .r0 .r1
  | .sxtR1 => .sxt .r1
  | .moveR2R1 => .move .r2 .r1
  | .moveR3R1 => .move .r3 .r1
  | .moveR0R2 => .move .r0 .r2
  | .moveR1R2 => .move .r1 .r2
  | .sxtR2 => .sxt .r2
  | .moveR3R2 => .move .r3 .r2
  | .moveR0R3 => .move .r0 .r3
  | .moveR1R3 => .move .r1 .r3
  | .moveR2R3 => .move .r2 .r3
  | .sxtR3 => .sxt .r3
  | .testR0 => .test .r0
  | .andR1R0 => .and .r1 .r0
  | .andR2R0 => .and .r2 .r0
  | .andR3R0 => .and .r3 .r0
  | .andR0R1 => .and .r0 .r1
  | .testR1 => .test .r1
  | .andR2R1 => .and .r2 .r1
  | .andR3R1 => .and .r3 .r1
  | .andR0R2 => .and .r0 .r2
  | .andR1R2 => .and .r1 .r2
  | .testR2 => .test .r2
  | .andR3R2 => .and .r3 .r2
  | .andR0R3 => .and .r0 .r3
  | .andR1R3 => .and .r1 .r3
  | .andR2R3 => .and .r2 .r3
  | .testR3 => .test .r3
  | .xorR0R0 => .xor .r0 .r0
  | .xorR1R0 => .xor .r1 .r0
  | .xorR2R0 => .xor .r2 .r0
  | .xorR3R0 => .xor .r3 .r0
  | .xorR0R1 => .xor .r0 .r1
  | .xorR1R1 => .xor .r1 .r1
  | .xorR2R1 => .xor .r2 .r1
  | .xorR3R1 => .xor .r3 .r1
  | .xorR0R2 => .xor .r0 .r2
  | .xorR1R2 => .xor .r1 .r2
  | .xorR2R2 => .xor .r2 .r2
  | .xorR3R2 => .xor .r3 .r2
  | .xorR0R3 => .xor .r0 .r3
  | .xorR1R3 => .xor .r1 .r3
  | .xorR2R3 => .xor .r2 .r3
  | .xorR3R3 => .xor .r3 .r3
  | .invR0 => .inv .r0
  | .orR1R0 => .or .r1 .r0
  | .orR2R0 => .or .r2 .r0
  | .orR3R0 => .or .r3 .r0
  | .orR0R1 => .or .r0 .r1
  | .invR1 => .inv .r1
  | .orR2R1 => .or .r2 .r1
  | .orR3R1 => .or .r3 .r1
  | .orR0R2 => .or .r0 .r2
  | .orR1R2 => .or .r1 .r2
  | .invR2 => .inv .r2
  | .orR3R2 => .or .r3 .r2
  | .orR0R3 => .or .r0 .r3
  | .orR1R3 => .or .r1 .r3
  | .orR2R3 => .or .r2 .r3
  | .invR3 => .inv .r3
  | .addR0R0 => .add .r0 .r0
  | .addR1R0 => .add .r1 .r0
  | .addR2R0 => .add .r2 .r0
  | .addR3R0 => .add .r3 .r0
  | .addR0R1 => .add .r0 .r1
  | .addR1R1 => .add .r1 .r1
  | .addR2R1 => .add .r2 .r1
  | .addR3R1 => .add .r3 .r1
  | .addR0R2 => .add .r0 .r2
  | .addR1R2 => .add .r1 .r2
  | .addR2R2 => .add .r2 .r2
  | .addR3R2 => .add .r3 .r2
  | .addR0R3 => .add .r0 .r3
  | .addR1R3 => .add .r1 .r3
  | .addR2R3 => .add .r2 .r3
  | .addR3R3 => .add .r3 .r3
  | .addqR0S0 => .addq .r0 0#2
  | .addqR1S0 => .addq .r1 0#2
  | .addqR2S0 => .addq .r2 0#2
  | .addqR3S0 => .addq .r3 0#2
  | .addqR0S1 => .addq .r0 1#2
  | .addqR1S1 => .addq .r1 1#2
  | .addqR2S1 => .addq .r2 1#2
  | .addqR3S1 => .addq .r3 1#2
  | .addqR0S2 => .addq .r0 2#2
  | .addqR1S2 => .addq .r1 2#2
  | .addqR2S2 => .addq .r2 2#2
  | .addqR3S2 => .addq .r3 2#2
  | .addqR0S3 => .addq .r0 3#2
  | .addqR1S3 => .addq .r1 3#2
  | .addqR2S3 => .addq .r2 3#2
  | .addqR3S3 => .addq .r3 3#2
  | .negR0 => .neg .r0
  | .subR1R0 => .sub .r1 .r0
  | .subR2R0 => .sub .r2 .r0
  | .subR3R0 => .sub .r3 .r0
  | .subR0R1 => .sub .r0 .r1
  | .negR1 => .neg .r1
  | .subR2R1 => .sub .r2 .r1
  | .subR3R1 => .sub .r3 .r1
  | .subR0R2 => .sub .r0 .r2
  | .subR1R2 => .sub .r1 .r2
  | .negR2 => .neg .r2
  | .subR3R2 => .sub .r3 .r2
  | .subR0R3 => .sub .r0 .r3
  | .subR1R3 => .sub .r1 .r3
  | .subR2R3 => .sub .r2 .r3
  | .negR3 => .neg .r3
  | .absR0 => .abs .r0
  | .cmpR1R0 => .cmp .r1 .r0
  | .cmpR2R0 => .cmp .r2 .r0
  | .cmpR3R0 => .cmp .r3 .r0
  | .cmpR0R1 => .cmp .r0 .r1
  | .absR1 => .abs .r1
  | .cmpR2R1 => .cmp .r2 .r1
  | .cmpR3R1 => .cmp .r3 .r1
  | .cmpR0R2 => .cmp .r0 .r2
  | .cmpR1R2 => .cmp .r1 .r2
  | .absR2 => .abs .r2
  | .cmpR3R2 => .cmp .r3 .r2
  | .cmpR0R3 => .cmp .r0 .r3
  | .cmpR1R3 => .cmp .r1 .r3
  | .cmpR2R3 => .cmp .r2 .r3
  | .absR3 => .abs .r3

end Sys2Proof
end

