-- ==== Sys2Proof/WellFormed.lean ====
section
/-! DEFINITION. Which terms of `Instr` are instructions with an encoding of their own. Every operand has the type of
its field, so the one check left is the descriptor of the raw shift and bit forms. -/

namespace Sys2Proof

/-- The reserved shift descriptors (R110): `d[5] = 1` with `d[4:2] != 0`. -/
def reservedShiftDescr (d : Byte) : Bool :=
  d.getLsbD 5 && d.extractLsb' 2 3 != 0#3

/-- The reserved bit descriptors (R110): `d[7:6] = 0`, or `d[5] = 0` with `d[4] = 1`, or `d[5] = 1` with
`d[4:2] != 0`. -/
def reservedBitDescr (d : Byte) : Bool :=
  d.extractLsb' 6 2 == 0#2 || (!d.getLsbD 5 && d.getLsbD 4) || (d.getLsbD 5 && d.extractLsb' 2 3 != 0#3)

/-- A form is well-formed when it is the one form of its encoding. A raw shift or bit form is, when its descriptor is
none of those that the 18 second-byte rows of the opcode table name (log 10): the descriptors that are left are the
reserved ones (R106, R107, R110). Every other form always is. -/
def Form.wellFormed : Form → Bool
  | .shiftRaw _ d => reservedShiftDescr d
  | .bitRaw _ d => reservedBitDescr d
  | _ => true

/-- See `Form.wellFormed`. -/
def Instr.wellFormed (i : Instr) : Bool := i.form.wellFormed

end Sys2Proof
end

