-- ==== Sys2Proof/Decode.lean ====
section
/-! DEFINITION. The decoder (R91 to R112), total on any bytes, and after it the encoder, written from the field
formulas of the same rules. -/

namespace Sys2Proof

/-- The register a 2-bit field names: 0 is R0, 3 is R3 (R96, R99, R106). -/
def Reg.ofBits (b : BitVec 2) : Reg :=
  if b = 0#2 then .r0 else if b = 1#2 then .r1 else if b = 2#2 then .r2 else .r3

/-- The length of an instruction, a function of its first byte alone (R91). -/
def instrLength (opcode : Byte) : Nat :=
  let b := opcode.toNat
  if b < 0xA0 then 1
  else if b < 0xB0 then 2
  else if b < 0xC0 then 3
  else if b = 0xCD then 2
  else if b = 0xCF then 3
  else if b < 0xD0 then 1
  else if b < 0xD4 then 3
  else if b < 0xF0 then 2
  else if b = 0xF3 then 3
  else if b = 0xF4 then 2
  else if b = 0xF5 then 2
  else if b = 0xF6 then 2
  else 1

/-! ## The descriptor byte -/

/-- The kind field `d[7:6]` of a shift descriptor (R106). -/
def shiftKindOf (k : BitVec 2) : ShiftKind :=
  if k = 0#2 then .logical else if k = 1#2 then .arithmetic else if k = 2#2 then .rotate else .rotateCarry

/-- `SHIFT_DESCR` at its default layout (R106): kind and count source, or `none` for a reserved value. -/
def shiftDescr (d : Byte) : Option (ShiftKind × ShiftCount) :=
  let kind := shiftKindOf (d.extractLsb' 6 2)
  if d.getLsbD 5 then
    if d.extractLsb' 2 3 = 0#3 then some (kind, .reg (Reg.ofBits (d.extractLsb' 0 2))) else none
  else some (kind, .imm (d.extractLsb' 0 5))

/-- `BIT_DESCR` at its default layout (R107): operation and bit number source, or `none` for a reserved value. -/
def bitDescr (d : Byte) : Option (BitOp × BitSel) :=
  let op : Option BitOp :=
    if d.extractLsb' 6 2 = 1#2 then some .bchg
    else if d.extractLsb' 6 2 = 2#2 then some .bclr
    else if d.extractLsb' 6 2 = 3#2 then some .bset
    else none
  let sel : Option BitSel :=
    if d.getLsbD 5 then
      if d.extractLsb' 2 3 = 0#3 then some (.reg (Reg.ofBits (d.extractLsb' 0 2))) else none
    else if d.getLsbD 4 then none
    else some (.imm (d.extractLsb' 0 4))
  match op, sel with
  | some op, some sel => some (op, sel)
  | _, _ => none

/-- The row of the opcode table for an immediate shift: the top bit of the 5-bit count is its sign, so it tells the
left mnemonic from the right one (R234; rows `lsl rA,#n` to `roxr rA,#n`). -/
def shiftImmRow (a : Reg) (k : ShiftKind) (c : BitVec 5) : Instr :=
  let n : BitVec 4 := c.extractLsb' 0 4
  match k, c.msb with
  | .logical, false => .lslImm a n
  | .logical, true => .lsrImm a n
  | .arithmetic, false => .aslImm a n
  | .arithmetic, true => .asrImm a n
  | .rotate, false => .rolImm a n
  | .rotate, true => .rorImm a n
  | .rotateCarry, false => .roxlImm a n
  | .rotateCarry, true => .roxrImm a n

/-- The row of the opcode table for a shift by a register (R235). -/
def shiftRegRow (a : Reg) (k : ShiftKind) (b : Reg) : Instr :=
  match k with
  | .logical => .lsReg a b
  | .arithmetic => .asReg a b
  | .rotate => .roReg a b
  | .rotateCarry => .roxReg a b

/-- The first-byte row `shift rA,descr` with its raw descriptor. -/
def shiftRawRow (a : Reg) (d : Byte) : Instr :=
  match a with
  | .r0 => .shiftR0Descr d
  | .r1 => .shiftR1Descr d
  | .r2 => .shiftR2Descr d
  | .r3 => .shiftR3Descr d

/-- The first-byte row `bit rA,descr` with its raw descriptor. -/
def bitRawRow (a : Reg) (d : Byte) : Instr :=
  match a with
  | .r0 => .bitR0Descr d
  | .r1 => .bitR1Descr d
  | .r2 => .bitR2Descr d
  | .r3 => .bitR3Descr d

/-- A shift instruction from its register and descriptor (R232): a row of the 18 where one covers the descriptor, the
raw first-byte row for a reserved one. -/
def decodeShift (a : Reg) (d : Byte) : Instr :=
  match shiftDescr d with
  | some (k, .imm c) => shiftImmRow a k c
  | some (k, .reg b) => shiftRegRow a k b
  | none => shiftRawRow a d

/-- A bit instruction from its register and descriptor (R233), as `decodeShift`. -/
def decodeBit (a : Reg) (d : Byte) : Instr :=
  match bitDescr d with
  | some (.bchg, .imm n) => .bchgImm a n
  | some (.bchg, .reg b) => .bchgReg a b
  | some (.bclr, .imm n) => .bclrImm a n
  | some (.bclr, .reg b) => .bclrReg a b
  | some (.bset, .imm n) => .bsetImm a n
  | some (.bset, .reg b) => .bsetReg a b
  | none => bitRawRow a d

/-! ## The opcode map -/

/-- The opcode map of R95, row `hi`, sixteen instructions from lower nibble 0 up. `b1` and `b2` are the bytes after
the opcode; a 16-bit operand has its low byte first (R92, R94). -/
def opcodeRow (hi : Nat) (b1 b2 : Byte) : List Instr :=
  match hi with
  | 0x0 => [
      .sxtR0, .moveR1R0, .moveR2R0, .moveR3R0,
      .moveR0R1, .sxtR1, .moveR2R1, .moveR3R1,
      .moveR0R2, .moveR1R2, .sxtR2, .moveR3R2,
      .moveR0R3, .moveR1R3, .moveR2R3, .sxtR3]
  | 0x1 => [
      .testR0, .andR1R0, .andR2R0, .andR3R0,
      .andR0R1, .testR1, .andR2R1, .andR3R1,
      .andR0R2, .andR1R2, .testR2, .andR3R2,
      .andR0R3, .andR1R3, .andR2R3, .testR3]
  | 0x2 => [
      .xorR0R0, .xorR1R0, .xorR2R0, .xorR3R0,
      .xorR0R1, .xorR1R1, .xorR2R1, .xorR3R1,
      .xorR0R2, .xorR1R2, .xorR2R2, .xorR3R2,
      .xorR0R3, .xorR1R3, .xorR2R3, .xorR3R3]
  | 0x3 => [
      .invR0, .orR1R0, .orR2R0, .orR3R0,
      .orR0R1, .invR1, .orR2R1, .orR3R1,
      .orR0R2, .orR1R2, .invR2, .orR3R2,
      .orR0R3, .orR1R3, .orR2R3, .invR3]
  | 0x4 => [
      .addR0R0, .addR1R0, .addR2R0, .addR3R0,
      .addR0R1, .addR1R1, .addR2R1, .addR3R1,
      .addR0R2, .addR1R2, .addR2R2, .addR3R2,
      .addR0R3, .addR1R3, .addR2R3, .addR3R3]
  | 0x5 => [
      .addqR0S0, .addqR1S0, .addqR2S0, .addqR3S0,
      .addqR0S1, .addqR1S1, .addqR2S1, .addqR3S1,
      .addqR0S2, .addqR1S2, .addqR2S2, .addqR3S2,
      .addqR0S3, .addqR1S3, .addqR2S3, .addqR3S3]
  | 0x6 => [
      .negR0, .subR1R0, .subR2R0, .subR3R0,
      .subR0R1, .negR1, .subR2R1, .subR3R1,
      .subR0R2, .subR1R2, .negR2, .subR3R2,
      .subR0R3, .subR1R3, .subR2R3, .negR3]
  | 0x7 => [
      .absR0, .cmpR1R0, .cmpR2R0, .cmpR3R0,
      .cmpR0R1, .absR1, .cmpR2R1, .cmpR3R1,
      .cmpR0R2, .cmpR1R2, .absR2, .cmpR3R2,
      .cmpR0R3, .cmpR1R3, .cmpR2R3, .absR3]
  | 0x8 => [
      .ldwR0IndR2, .ldwR1IndR2, .ldwR0IndR3, .ldwR1IndR3,
      .ldbR0IndR2, .ldbR1IndR2, .ldbR0IndR3, .ldbR1IndR3,
      .stwIndR2R0, .stwIndR2R1, .stwIndR3R0, .stwIndR3R1,
      .stbIndR2R0, .stbIndR2R1, .stbIndR3R0, .stbIndR3R1]
  | 0x9 => [
      .ldwR0IncR2, .ldwR1IncR2, .ldwR0IncR3, .ldwR1IncR3,
      .ldbR0IncR2, .ldbR1IncR2, .ldbR0IncR3, .ldbR1IncR3,
      .stwIncR2R0, .stwIncR2R1, .stwIncR3R0, .stwIncR3R1,
      .stbIncR2R0, .stbIncR2R1, .stbIncR3R0, .stbIncR3R1]
  | 0xA => [
      .ldwR0Sp b1, .ldwR1Sp b1, .ldwR2Sp b1, .ldwR3Sp b1,
      .ldbR0Sp b1, .ldbR1Sp b1, .ldbR2Sp b1, .ldbR3Sp b1,
      .stwSpR0 b1, .stwSpR1 b1, .stwSpR2 b1, .stwSpR3 b1,
      .stbSpR0 b1, .stbSpR1 b1, .stbSpR2 b1, .stbSpR3 b1]
  | 0xB => [
      .ldwR0Abs (b2 ++ b1), .ldwR1Abs (b2 ++ b1), .ldwR2Abs (b2 ++ b1), .ldwR3Abs (b2 ++ b1),
      .ldbR0Abs (b2 ++ b1), .ldbR1Abs (b2 ++ b1), .ldbR2Abs (b2 ++ b1), .ldbR3Abs (b2 ++ b1),
      .stwAbsR0 (b2 ++ b1), .stwAbsR1 (b2 ++ b1), .stwAbsR2 (b2 ++ b1), .stwAbsR3 (b2 ++ b1),
      .stbAbsR0 (b2 ++ b1), .stbAbsR1 (b2 ++ b1), .stbAbsR2 (b2 ++ b1), .stbAbsR3 (b2 ++ b1)]
  | 0xC => [
      .popR0, .popR1, .popR2, .popR3,
      .popPs, .nopC5, .ret, .reti,
      .pushR0, .pushR1, .pushR2, .pushR3,
      .pushPs, .trap b1, .jsrR0, .jsrAddr (b2 ++ b1)]
  | 0xD => [
      .ldwR0Imm (b2 ++ b1), .ldwR1Imm (b2 ++ b1), .ldwR2Imm (b2 ++ b1), .ldwR3Imm (b2 ++ b1),
      .ldbR0Imm b1, .ldbR1Imm b1, .ldbR2Imm b1, .ldbR3Imm b1,
      decodeShift .r0 b1, decodeShift .r1 b1, decodeShift .r2 b1, decodeShift .r3 b1,
      decodeBit .r0 b1, decodeBit .r1 b1, decodeBit .r2 b1, decodeBit .r3 b1]
  | 0xE => [
      .bcc b1, .bcs b1, .bne b1, .beq b1,
      .bvc b1, .bvs b1, .bpl b1, .bmi b1,
      .bge b1, .blt b1, .bgt b1, .ble b1,
      .buc b1, .bus b1, .bhi b1, .bls b1]
  | _ => [
      .moveR0Sp, .moveSpR0, .jmpR0, .jmpAddr (b2 ++ b1),
      .andiPs b1, .oriPs b1, .addiSp b1, .sqrt,
      .mulu, .muls, .divu, .divs,
      .addx, .subx, .negx, .nop]

/-- The instruction in three bytes from its opcode on, of which it uses as many as its length (R112). Every first byte
is assigned (R108). -/
def decodeOpcode (b0 b1 b2 : Byte) : Instr :=
  (opcodeRow (b0.toNat / 16) b1 b2).getD (b0.toNat % 16) .nop

/-- Why a list of bytes holds no instruction: the only reasons there are, since every first byte is assigned (R108). -/
inductive DecodeReject
  /-- There is no byte at all. -/
  | noBytes
  /-- The list ends before the operand bytes of this opcode do. -/
  | truncated (opcode : Byte)
  deriving DecidableEq, Repr

/-- The instruction at the head of a list of bytes, with the bytes after it (R112). -/
def decode : List Byte → Except DecodeReject (Instr × List Byte)
  | [] => .error .noBytes
  | b0 :: rest =>
    if rest.length + 1 < instrLength b0 then .error (.truncated b0)
    else .ok (decodeOpcode b0 (rest.getD 0 0#8) (rest.getD 1 0#8), rest.drop (instrLength b0 - 1))

/-! ## The opcode table's words -/

/-- The bytes of an instruction whose bits are `w` as spec/opcode_table.json numbers them, lowest address first: three
of them, zero above `nbits`. A first-byte row has its opcode in bits 7:0. The 18 second-byte rows have it in bits 15:8,
over the descriptor in bits 7:0, so a 16-bit `w` with 0xD8 to 0xDF there is read that way (log 11). -/
def tableBytes (nbits w : Nat) : List Byte :=
  let v : BitVec 24 := BitVec.ofNat 24 (w % 2 ^ nbits)
  let b0 := v.extractLsb' 0 8
  let b1 := v.extractLsb' 8 8
  let b2 := v.extractLsb' 16 8
  if nbits = 16 ∧ 0xD8 ≤ b1.toNat ∧ b1.toNat ≤ 0xDF then [b1, b0, b2] else [b0, b1, b2]

/-- What the decoder reads from an opcode table word (`tableBytes`); `none` for a word of no byte or of more than the
three bytes of the longest instruction (R90). -/
def decodeTableWord (nbits w : Nat) : Option Instr :=
  if nbits = 0 ∨ 24 < nbits then none
  else
    match decode (tableBytes nbits w) with
    | .ok (i, _) => some i
    | .error _ => none

/-! ## The encoder -/

/-- The 2-bit field of a register. -/
def Reg.bits : Reg → BitVec 2
  | .r0 => 0#2
  | .r1 => 1#2
  | .r2 => 2#2
  | .r3 => 3#2

/-- The opcode of the register family (R139): `{hi, B, A}`. -/
def opRegs (hi : BitVec 4) (b a : BitVec 2) : Byte := hi ++ b ++ a

/-- The size bit Z of a load or store opcode (R98): 0 word, 1 byte. -/
def Width.bit : Width → BitVec 1
  | .word => 0#1
  | .byte => 1#1

/-- The bytes of a load (`s = 0`) or store (`s = 1`) (R98, R99, R186): in groups 8 and 9 the fields are S, Z, I, D of
one bit each, in groups A and B the field D has two bits. -/
def encodeAccess (s : BitVec 1) (w : Width) (d : Reg) : EA → List Byte
  | .ind r => [0x8#4 ++ s ++ w.bit ++ r.bits.extractLsb' 0 1 ++ d.bits.extractLsb' 0 1]
  | .postInc r => [0x9#4 ++ s ++ w.bit ++ r.bits.extractLsb' 0 1 ++ d.bits.extractLsb' 0 1]
  | .spRel m => [0xA#4 ++ s ++ w.bit ++ d.bits, m]
  | .abs addr => [0xB#4 ++ s ++ w.bit ++ d.bits, addr.extractLsb' 0 8, addr.extractLsb' 8 8]

/-- The field `d[7:6]` of each shift kind (R106). -/
def ShiftKind.bits : ShiftKind → BitVec 2
  | .logical => 0#2
  | .arithmetic => 1#2
  | .rotate => 2#2
  | .rotateCarry => 3#2

/-- The field `d[7:6]` of each bit operation (R107). -/
def BitOp.bits : BitOp → BitVec 2
  | .bchg => 1#2
  | .bclr => 2#2
  | .bset => 3#2

/-- The shift descriptor byte (R106). -/
def encodeShiftDescr (k : ShiftKind) : ShiftCount → Byte
  | .imm c => k.bits ++ 0#1 ++ c
  | .reg b => k.bits ++ 1#1 ++ 0#3 ++ b.bits

/-- The bit descriptor byte (R107). -/
def encodeBitDescr (op : BitOp) : BitSel → Byte
  | .imm n => op.bits ++ 0#2 ++ n
  | .reg b => op.bits ++ 1#1 ++ 0#3 ++ b.bits

/-- The condition number (R102, R288). -/
def Cond.bits : Cond → BitVec 4
  | .cc => 0x0#4
  | .cs => 0x1#4
  | .ne => 0x2#4
  | .eq => 0x3#4
  | .vc => 0x4#4
  | .vs => 0x5#4
  | .pl => 0x6#4
  | .mi => 0x7#4
  | .ge => 0x8#4
  | .lt => 0x9#4
  | .gt => 0xA#4
  | .le => 0xB#4
  | .uc => 0xC#4
  | .us => 0xD#4
  | .hi => 0xE#4
  | .ls => 0xF#4

/-- An opcode and a 16-bit operand, low byte first (R92, format F3). -/
def encodeF3 (op : Byte) (v : Word) : List Byte := [op, v.extractLsb' 0 8, v.extractLsb' 8 8]

/-- The bytes of a form (R92, R96 to R107). -/
def Form.encode : Form → List Byte
  | .sxt a => [opRegs 0x0 a.bits a.bits]
  | .move a b => [opRegs 0x0 b.bits a.bits]
  | .test a => [opRegs 0x1 a.bits a.bits]
  | .and a b => [opRegs 0x1 b.bits a.bits]
  | .xor a b => [opRegs 0x2 b.bits a.bits]
  | .inv a => [opRegs 0x3 a.bits a.bits]
  | .or a b => [opRegs 0x3 b.bits a.bits]
  | .add a b => [opRegs 0x4 b.bits a.bits]
  | .addq a sel => [opRegs 0x5 sel a.bits]
  | .neg a => [opRegs 0x6 a.bits a.bits]
  | .sub a b => [opRegs 0x6 b.bits a.bits]
  | .abs a => [opRegs 0x7 a.bits a.bits]
  | .cmp a b => [opRegs 0x7 b.bits a.bits]
  | .load w d ea => encodeAccess 0#1 w d ea
  | .store w ea d => encodeAccess 1#1 w d ea
  | .pop a => [0xC#4 ++ 0#2 ++ a.bits]
  | .popPs => [0xC4]
  | .nopC5 => [0xC5]
  | .ret => [0xC6]
  | .reti => [0xC7]
  | .push a => [0xC#4 ++ 2#2 ++ a.bits]
  | .pushPs => [0xCC]
  | .trap n => [0xCD, n]
  | .jsrR0 => [0xCE]
  | .jsrAddr addr => encodeF3 0xCF addr
  | .loadImmW a data => encodeF3 (0xD#4 ++ 0#2 ++ a.bits) data
  | .loadImmB a data => [0xD#4 ++ 1#2 ++ a.bits, data]
  | .shiftRaw a d => [0xD#4 ++ 2#2 ++ a.bits, d]
  | .bitRaw a d => [0xD#4 ++ 3#2 ++ a.bits, d]
  | .shift a k c => [0xD#4 ++ 2#2 ++ a.bits, encodeShiftDescr k c]
  | .bit a op n => [0xD#4 ++ 3#2 ++ a.bits, encodeBitDescr op n]
  | .branch c dd => [0xE#4 ++ c.bits, dd]
  | .moveR0Sp => [0xF0]
  | .moveSpR0 => [0xF1]
  | .jmpR0 => [0xF2]
  | .jmpAddr addr => encodeF3 0xF3 addr
  | .andiPs data => [0xF4, data]
  | .oriPs data => [0xF5, data]
  | .addiSp data => [0xF6, data]
  | .sqrt => [0xF7]
  | .mulu => [0xF8]
  | .muls => [0xF9]
  | .divu => [0xFA]
  | .divs => [0xFB]
  | .addx => [0xFC]
  | .subx => [0xFD]
  | .negx => [0xFE]
  | .nop => [0xFF]

/-- The bytes of an instruction, opcode first. -/
def encode (i : Instr) : List Byte := i.form.encode

end Sys2Proof
end

