-- ==== Sys2Proof/Config.lean ====
section
/-! DEFINITION. What an implementation fixes and the spec leaves OPEN (R4), as plain data, and the one free value
of the model. The spec's default values stand in `Sys2Proof/Machine/Params.lean`. -/

namespace Sys2Proof.Config

/-- `VECTOR_BASE` (R341): chosen by the hardware, 0x0000 or 0xFFF0, no other value. -/
inductive VectorBase
  | low
  | high
  deriving DecidableEq, Repr

/-- What `MEM_MAP` says an address holds (R71). -/
inductive RegionKind
  | ram
  | rom
  | device
  | absent
  deriving DecidableEq, Repr

/-- One stretch of the address space in `MEM_MAP` (R71): `size` bytes from `base` up. -/
structure Region where
  base : Word
  size : Nat
  kind : RegionKind
  deriving DecidableEq, Repr

/-- `PS_LAYOUT` (R30): the bit of the PS word that holds each flag. -/
structure PsLayout where
  n : Fin 16
  z : Fin 16
  v : Fin 16
  x : Fin 16
  c : Fin 16
  d : Fin 16
  u : Fin 16
  deriving DecidableEq, Repr

/-- The four constants ADDQ may add (R97: the values are plus or minus 1 and 2). -/
inductive AddqValue
  | plus1
  | plus2
  | minus1
  | minus2
  deriving DecidableEq, Repr

/-- `ADDQ_CONST` (R97): the constants of selectors 1, 2 and 3; selector 0 is +2 and not open. -/
structure AddqConst where
  sel1 : AddqValue
  sel2 : AddqValue
  sel3 : AddqValue
  deriving DecidableEq, Repr

/-- `MULDIV_DEST` (R308 to R311): where the two halves of a product, a quotient and a remainder go. -/
structure MulDivDest where
  prodLow : Reg
  prodHigh : Reg
  quotient : Reg
  remainder : Reg
  deriving DecidableEq, Repr

/-- `ROX_LINK` (R244): the flag that ROXL and ROXR rotate through. -/
inductive RoxLink
  | c
  | x
  deriving DecidableEq, Repr

/-- `END_PC` (R391): how a run ends. No step reads it. -/
inductive EndPc
  /-- The default: an instruction leaves `pc` at its own address. -/
  | selfJump
  /-- A set of end addresses: `pc` is one of them. -/
  | addresses (ends : List Word)
  /-- A step bound: that many steps are done. -/
  | stepBound (n : Nat)
  deriving DecidableEq, Repr

/-- The OPEN parameters of R4. They are fixed for a run: no instruction writes them (R29, R341). -/
structure Params where
  vectorBase : VectorBase
  memMap : List Region
  psLayout : PsLayout
  addqConst : AddqConst
  /-- `SHIFT_DESCR` (R105), as the byte of the default layout (R106) that each descriptor byte stands for, by its number; a
  byte past the end of the list stands for itself, so the empty list is the default. -/
  shiftDescr : List Byte
  /-- `BIT_DESCR` (R105), over the default layout of R107, as `shiftDescr`. -/
  bitDescr : List Byte
  /-- `BRANCH_BASE` (R270), as its distance from the address of the next instruction: 0 is the default. -/
  branchBias : Word
  mulDivDest : MulDivDest
  /-- `DIV_D` (R311): the value of flag D that selects the truncating division; `false` is the default. -/
  divD : Bool
  roxLink : RoxLink
  endPc : EndPc
  deriving DecidableEq, Repr

/-- FREE VALUE (R26, R31): what the bits of PS that hold no flag read as, at the k-th reading of the PS word. The
spec calls it unspecified, a free draw; nothing here says what it is, and only the bits no flag takes are used. -/
opaque psUnnamedBits : Nat → Word

end Sys2Proof.Config
end

