-- ==== Sys2Proof/Machine/Params.lean ====
section
/-! DEFINITION. The OPEN parameters (R4): their default values, and what each value means. -/

namespace Sys2Proof.Config

/-- The address `VECTOR_BASE` stands for (R341). -/
def VectorBase.address : VectorBase → Word
  | .low => 0x0000#16
  | .high => 0xFFF0#16

/-- The address of vector slot `k` (R340, R342): `(VECTOR_BASE + 4 * k) mod 65536`. -/
def VectorBase.slot (b : VectorBase) (k : Nat) : Word := b.address + BitVec.ofNat 16 (4 * k)

/-- The default `PS_LAYOUT` (R30): N 1, Z 2, V 3, X 4, C 5, D 6, U 7. PRESUMED by the spec, log 3. -/
def PsLayout.standard : PsLayout := ⟨1, 2, 3, 4, 5, 6, 7⟩

/-- R30: the seven positions of a layout are distinct. -/
def PsLayout.distinct (l : PsLayout) : Bool := decide [l.n, l.z, l.v, l.x, l.c, l.d, l.u].Nodup

/-- The 16-bit pattern of an ADDQ constant (R141: `sext_16(k)`). -/
def AddqValue.word : AddqValue → Word
  | .plus1 => 0x0001#16
  | .plus2 => 0x0002#16
  | .minus1 => 0xFFFF#16
  | .minus2 => 0xFFFE#16

/-- `ADDQ_CONST[S]` (R97): selector 0 is +2, the others are the parameter's. -/
def AddqConst.value (k : AddqConst) (sel : BitVec 2) : AddqValue :=
  if sel = 0#2 then .plus2 else if sel = 1#2 then k.sel1 else if sel = 2#2 then k.sel2 else k.sel3

/-- The default `ADDQ_CONST` (R97): +1, -2, -1 for selectors 1, 2, 3. PRESUMED by the spec, log 4. -/
def AddqConst.standard : AddqConst := ⟨.plus1, .minus2, .minus1⟩

/-- The default `MULDIV_DEST` (R308 to R311): R2 low word or quotient, R3 high word or remainder. PRESUMED by the
spec, log 6. -/
def MulDivDest.standard : MulDivDest := ⟨.r2, .r3, .r2, .r3⟩

/-- Every OPEN parameter at the spec's default (R4): base 0x0000, all 65536 bytes RAM, the descriptor layouts of R106 and
R107, next-instruction branch base, D = 0 truncating, rotation through C, a run ended by a jump to itself. -/
def Params.standard : Params where
  vectorBase := .low
  memMap := []
  psLayout := .standard
  addqConst := .standard
  shiftDescr := []
  bitDescr := []
  branchBias := 0#16
  mulDivDest := .standard
  divD := false
  roxLink := .c
  endPc := .selfJump

/-- The byte after an opcode as the decoder takes it: the descriptor of a shift (0xD8 to 0xDB) or bit instruction (0xDC to
0xDF) in the default layout (R105; log 9), any other byte as it is. -/
def Params.descriptor (p : Params) (opcode b : Byte) : Byte :=
  if opcode.extractLsb' 2 6 = 0x36#6 then p.shiftDescr.getD b.toNat b
  else if opcode.extractLsb' 2 6 = 0x37#6 then p.bitDescr.getD b.toNat b
  else b

/-- Whether a region holds an address. -/
def Region.covers (r : Region) (a : Word) : Bool :=
  decide (r.base.toNat ≤ a.toNat) && decide (a.toNat < r.base.toNat + r.size)

/-- What `MEM_MAP` says an address holds (R71): RAM where no region covers it, which is every address by default. -/
def Params.kindAt (p : Params) (a : Word) : RegionKind :=
  match p.memMap.find? (fun r => r.covers a) with
  | some r => r.kind
  | none => .ram

/-- An address whose bytes an instruction may read: RAM or ROM (R71). -/
def Params.canRead (p : Params) (a : Word) : Bool :=
  match p.kindAt a with
  | .ram => true
  | .rom => true
  | .device => false
  | .absent => false

/-- An address whose bytes an instruction may write: RAM (R71). -/
def Params.canWrite (p : Params) (a : Word) : Bool :=
  match p.kindAt a with
  | .ram => true
  | .rom => false
  | .device => false
  | .absent => false

/-- The parameters are legal ones: the seven flag positions are distinct (R30). -/
def Params.wf (p : Params) : Bool := p.psLayout.distinct

end Sys2Proof.Config
end

