-- ==== Sys2Proof/Machine/State.lean ====
section
/-! DEFINITION. The machine's state (R20 to R29), the ways a step can stop, and the state after reset (R37, R380). -/

namespace Sys2Proof.Machine

/-- The four general registers (R20). -/
structure Regs where
  r0 : Word
  r1 : Word
  r2 : Word
  r3 : Word
  deriving DecidableEq, Repr

/-- PS as its seven named flags (R25, R26). -/
structure Flags where
  z : Bool
  n : Bool
  c : Bool
  v : Bool
  u : Bool
  x : Bool
  d : Bool
  deriving DecidableEq, Repr

/-- The 65536 bytes of memory (R28): the cells that differ from what an unlisted byte reads as, addresses rising. -/
abbrev Memory := List Host.Cell

/-- The whole state of the machine. -/
structure State where
  /-- R0 to R3 (R20). -/
  regs : Regs
  /-- The program counter (R22). -/
  pc : Word
  /-- The stack pointer (R24). -/
  sp : Word
  /-- The processor status register (R25, R26). -/
  ps : Flags
  /-- The H register (R27): no instruction reads or writes it. -/
  h : Word
  /-- Memory (R28). -/
  mem : Memory
  /-- MODEL: the OPEN parameters (R4); no instruction writes them. -/
  params : Config.Params
  /-- MODEL: how many PS words have been read; the index of the next free value (log 14). -/
  psDraws : Nat
  deriving DecidableEq, Repr

/-- The stuck states of R71: an access that has no step. They need a non-default `MEM_MAP`. -/
inductive Fault
  /-- Raised by any fetch, load or store whose address holds no memory (R71). Safe: the run stops where the spec
  gives no step. -/
  | noMemory
  /-- Raised by a store to ROM (R71). Safe: the run stops where the spec gives no step. -/
  | romWrite
  deriving DecidableEq, Repr

/-- What the model gives no meaning. -/
inductive Refusal
  /-- An arm of `exec` whose instruction has no meaning yet. Safe: the run stops. -/
  | notModelled (mnemonic : String)
  /-- Raised by an access to a device of `MEM_MAP`, whose behaviour is outside the spec (R69). Safe: the run stops. -/
  | deviceAccess
  /-- Raised by a shift instruction with a reserved descriptor (R110). Safe: the run stops as the spec says. -/
  | reservedShiftDescriptor
  /-- Raised by a bit instruction with a reserved descriptor (R110). Safe: the run stops as the spec says. -/
  | reservedBitDescriptor
  deriving DecidableEq, Repr

/-- One step's answer. -/
abbrev Result := Host.Outcome State Fault Refusal

/-- The machine right after reset (R37, R380): `pc = VECTOR_BASE`, nothing pushed. DESIGN CHOICE (log 12, 13, 14):
the spec gives no value for anything else; the model names zero. The parameters are the defaults of R4. -/
def State.reset : State where
  regs := ⟨0#16, 0#16, 0#16, 0#16⟩
  pc := Config.Params.standard.vectorBase.address
  sp := 0#16
  ps := ⟨false, false, false, false, false, false, false⟩
  h := 0#16
  mem := []
  params := Config.Params.standard
  psDraws := 0

end Sys2Proof.Machine
end

