-- ==== Sys2Proof/Machine/Flags.lean ====
section
/-! DEFINITION. Every flag computation the spec gives (R10, R32), the branch conditions (R271 to R286), and the 16-bit
image of PS (R31). -/

namespace Sys2Proof.Machine

/-- `SetZN(r)` (R10): Z says the result is zero, N is its bit 15. -/
def Flags.setZN (f : Flags) (r : Word) : Flags := { f with z := r == 0#16, n := r.msb }

/-- A sum or difference with its carry or borrow and its signed overflow. -/
structure AddResult where
  r : Word
  c : Bool
  v : Bool
  deriving DecidableEq, Repr

/-- `Add16(a, b, cin)` (R10): the carry is that out of bit 15. -/
def add16 (a b : Word) (cin : Bool) : AddResult :=
  let t := a.toNat + b.toNat + cin.toNat
  let r := BitVec.ofNat 16 t
  { r := r, c := decide (65535 < t), v := a.msb == b.msb && r.msb != a.msb }

/-- `Sub16(a, b, bin)` (R10): the carry is a borrow. -/
def sub16 (a b : Word) (bin : Bool) : AddResult :=
  let t : Int := (a.toNat : Int) - (b.toNat : Int) - (bin.toNat : Int)
  let r := BitVec.ofInt 16 t
  { r := r, c := decide (t < 0), v := a.msb != b.msb && r.msb != a.msb }

/-- The flags of the add and subtract family (R33): Z, N, C, V, and X a copy of C (R36). -/
def Flags.setSum (f : Flags) (q : AddResult) : Flags :=
  { f.setZN q.r with c := q.c, v := q.v, x := q.c }

/-- The flags of CMP (R145): Z, N, C, V; X is left alone. -/
def Flags.setCompare (f : Flags) (q : AddResult) : Flags :=
  { f.setZN q.r with c := q.c, v := q.v }

/-- The flags of MULU and MULS (R308, R309): Z and N of the 32-bit product. -/
def Flags.setProduct (f : Flags) (p : BitVec 32) : Flags := { f with z := p == 0#32, n := p.msb }

/-- A word with its bit `p` made `b`. -/
def putBit (w : Word) (p : Fin 16) (b : Bool) : Word :=
  if b then w ||| BitVec.twoPow 16 p.val else w &&& ~~~(BitVec.twoPow 16 p.val)

/-- The 16-bit image of the flags (R31): each flag at its position of `PS_LAYOUT`, every other bit as in `base`. -/
def Flags.image (f : Flags) (l : Config.PsLayout) (base : Word) : Word :=
  putBit (putBit (putBit (putBit (putBit (putBit (putBit base l.n f.n) l.z f.z) l.v f.v) l.x f.x) l.c f.c) l.d f.d) l.u f.u

/-- `SetPs(w)` (R31): each flag from its position of `PS_LAYOUT`; every other bit of `w` is ignored. -/
def Flags.ofImage (l : Config.PsLayout) (w : Word) : Flags where
  z := w.getLsbD l.z.val
  n := w.getLsbD l.n.val
  c := w.getLsbD l.c.val
  v := w.getLsbD l.v.val
  u := w.getLsbD l.u.val
  x := w.getLsbD l.x.val
  d := w.getLsbD l.d.val

end Sys2Proof.Machine

namespace Sys2Proof

/-- Whether a branch condition holds (R271 to R286). -/
def Cond.holds (f : Machine.Flags) : Cond → Bool
  | .cc => !f.c
  | .cs => f.c
  | .ne => !f.z
  | .eq => f.z
  | .vc => !f.v
  | .vs => f.v
  | .pl => !f.n
  | .mi => f.n
  | .ge => f.n == f.v
  | .lt => f.n != f.v
  | .gt => !f.z && f.n == f.v
  | .le => f.z || f.n != f.v
  | .uc => !f.u
  | .us => f.u
  | .hi => !f.c && !f.z
  | .ls => f.c || f.z

end Sys2Proof
end

