-- ==== Sys2Proof/Machine/Ops.lean ====
section
/-! DEFINITION. The named operations every meaning is written over: registers, memory, the guarded accesses of R71, the
stack (R9, R204), the instruction fetch (R8, R23), taking an exception (R344) and returning from one (R205, R350). -/

namespace Sys2Proof.Machine

/-! ## Registers -/

/-- Reads a general register. -/
def Regs.get (g : Regs) : Reg → Word
  | .r0 => g.r0
  | .r1 => g.r1
  | .r2 => g.r2
  | .r3 => g.r3

/-- Writes a general register (R21: none is hard-wired). -/
def Regs.set (g : Regs) (i : Reg) (w : Word) : Regs :=
  match i with
  | .r0 => { g with r0 := w }
  | .r1 => { g with r1 := w }
  | .r2 => { g with r2 := w }
  | .r3 => { g with r3 := w }

/-- `x[i]` (R7). -/
def State.reg (s : State) (i : Reg) : Word := s.regs.get i

/-- `x[i] <- w` (R7). -/
def State.setReg (s : State) (i : Reg) (w : Word) : State := { s with regs := s.regs.set i w }

/-- `SetZN(r)` on the machine (R10). -/
def State.setZN (s : State) (r : Word) : State := { s with ps := s.ps.setZN r }

/-- A byte as a 16-bit value, zero-extended (R6, R67). -/
def zext16 (b : Byte) : Word := b.setWidth 16

/-- A byte as a 16-bit value, sign-extended (R6). -/
def sext16 (b : Byte) : Word := b.signExtend 16

/-! ## Memory -/

/-- What a byte that nothing has written reads as. DESIGN CHOICE (log 13): the spec gives memory no contents (R37). -/
def Memory.unlisted : Byte := 0x00#8

/-- The byte at an address. -/
def Memory.read : Memory → Nat → Byte
  | [], _ => Memory.unlisted
  | (b, v) :: m, a => if a = b then v else Memory.read m a

/-- The memory without any cell at an address. -/
def Memory.erase : Memory → Nat → Memory
  | [], _ => []
  | (b, v) :: m, a => if a = b then m else (b, v) :: Memory.erase m a

/-- The memory with a cell put at its place in the rising order, over the one at the same address. -/
def Memory.insert : Memory → Nat → Byte → Memory
  | [], a, w => [(a, w)]
  | (b, v) :: m, a, w =>
    if a < b then (a, w) :: (b, v) :: m
    else if a = b then (a, w) :: m
    else (b, v) :: Memory.insert m a w

/-- Stores one byte and keeps the canonical form: a byte that reads as an unlisted one is not listed. -/
def Memory.write (m : Memory) (a : Nat) (w : Byte) : Memory :=
  if w = Memory.unlisted then Memory.erase m a else Memory.insert m a w

/-- Every listed address is at least `lo`, below 65536 (R60), the addresses rise, and no listed byte is the unlisted
one. -/
def Memory.wfFrom : Memory → Nat → Bool
  | [], _ => true
  | (b, v) :: m, lo => decide (lo ≤ b) && decide (b < 65536) && v != Memory.unlisted && Memory.wfFrom m (b + 1)

/-- The canonical form of memory. -/
def Memory.wf (m : Memory) : Bool := Memory.wfFrom m 0

/-- The byte at a 16-bit address: `MemRead(a, 1)` (R8). -/
def State.byte (s : State) (a : Word) : Byte := Memory.read s.mem a.toNat

/-- The little-endian word at an address: `MemRead(a, 2)` (R8, R62); 0xFFFF continues at 0x0000 (R66). -/
def State.word (s : State) (a : Word) : Word := s.byte (a + 1#16) ++ s.byte a

/-- `MemWrite(a, 1, b)` (R8). -/
def State.putByte (s : State) (a : Word) (b : Byte) : State := { s with mem := Memory.write s.mem a.toNat b }

/-- `MemWrite(a, 2, w)` (R8, R62, R66): low byte first, at `a`, then the high byte at `a + 1`. -/
def State.putWord (s : State) (a : Word) (w : Word) : State :=
  (s.putByte a (w.extractLsb' 0 8)).putByte (a + 1#16) (w.extractLsb' 8 8)

/-! ## Guarded accesses: `MEM_MAP` (R71) -/

/-- Goes on with `k` where the address can be read (R71). -/
def State.guardRead (s : State) (a : Word) (k : Result) : Result :=
  match s.params.kindAt a with
  | .ram => k
  | .rom => k
  | .device => .refused .deviceAccess
  | .absent => .fault .noMemory

/-- Goes on with `k` where the address can be written (R71). -/
def State.guardWrite (s : State) (a : Word) (k : Result) : Result :=
  match s.params.kindAt a with
  | .ram => k
  | .rom => .fault .romWrite
  | .device => .refused .deviceAccess
  | .absent => .fault .noMemory

/-- Goes on with `k` where `n` bytes from `a` up can all be read, in that order (R66). -/
def State.guardReads (s : State) (a : Word) (n : Nat) (k : Result) : Result :=
  match n with
  | 0 => k
  | n + 1 => s.guardRead a (s.guardReads (a + 1#16) n k)

/-- Goes on with `k` where `n` bytes from `a` up can all be written, in that order (R66). -/
def State.guardWrites (s : State) (a : Word) (n : Nat) (k : Result) : Result :=
  match n with
  | 0 => k
  | n + 1 => s.guardWrite a (s.guardWrites (a + 1#16) n k)

/-- Reads a word and goes on with it. -/
def State.loadWord (s : State) (a : Word) (k : Word → Result) : Result := s.guardReads a 2 (k (s.word a))

/-- Reads a byte, zero-extended (R67), and goes on with it. -/
def State.loadByte (s : State) (a : Word) (k : Word → Result) : Result := s.guardReads a 1 (k (zext16 (s.byte a)))

/-- Stores a word and goes on. -/
def State.storeWord (s : State) (a w : Word) (k : State → Result) : Result := s.guardWrites a 2 (k (s.putWord a w))

/-- Stores bits 7:0 of a word (R67) and goes on. -/
def State.storeByte (s : State) (a w : Word) (k : State → Result) : Result :=
  s.guardWrites a 1 (k (s.putByte a (w.extractLsb' 0 8)))

/-! ## The stack -/

/-- `Push16(v)` (R9, R204): full descending. -/
def State.push16 (s : State) (v : Word) (k : State → Result) : Result :=
  State.storeWord { s with sp := s.sp - 2#16 } (s.sp - 2#16) v k

/-- `Pop16()` (R9, R204). -/
def State.pop16 (s : State) (k : Word → State → Result) : Result :=
  s.loadWord s.sp (fun v => k v { s with sp := s.sp + 2#16 })

/-! ## The status register -/

/-- `PsWord()` (R31): the flags at their positions; the bits that hold no flag are a free value (R26, log 14). -/
def State.psWord (s : State) : Word := s.ps.image s.params.psLayout (Config.psUnnamedBits s.psDraws)

/-- The machine after one reading of the PS word: the next one draws afresh (R26). -/
def State.drawn (s : State) : State := { s with psDraws := s.psDraws + 1 }

/-- `SetPs(w)` (R31). -/
def State.setPs (s : State) (w : Word) : State := { s with ps := Flags.ofImage s.params.psLayout w }

/-- `Push16(PsWord())` (R207, R344). -/
def State.pushPsWord (s : State) (k : State → Result) : Result := s.drawn.push16 s.psWord k

/-! ## Exceptions -/

/-- The exceptions an instruction can raise (R340); Reset, vector 0, is raised by none. -/
inductive Exception
  /-- Vector 1. No instruction raises it (R345). -/
  | undefinedInstruction
  /-- Vector 2: DIVU and DIVS with R1 = 0 (R346). -/
  | divideByZero
  /-- Vector 3: TRAP #n (R347). -/
  | trap
  deriving DecidableEq, Repr

/-- The vector number (R340). -/
def Exception.number : Exception → Nat
  | .undefinedInstruction => 1
  | .divideByZero => 2
  | .trap => 3

/-- Taking an exception (R344): `Push16(pc); Push16(PsWord()); pc <- (VECTOR_BASE + 4 * k) mod 65536`. `pc` already is
the address of the next instruction (R23); flags and registers are unchanged. -/
def State.takeException (s : State) (e : Exception) : Result :=
  s.push16 s.pc (fun s1 => s1.pushPsWord (fun s2 => .next { s2 with pc := s2.params.vectorBase.slot e.number }))

/-- Returning from an exception (R205, R350): `SetPs(Pop16()); pc <- Pop16()`. -/
def State.returnFromTrap (s : State) : Result :=
  s.pop16 (fun w s1 => (s1.setPs w).pop16 (fun a s2 => .next { s2 with pc := a }))

/-! ## Fetch -/

/-- Fetches the instruction at `pc` (R8, R23, R112) and goes on with it and with the machine whose `pc` is the address
of the byte after it. All its bytes are read before it acts (R76); `pc` wraps inside an instruction (R23). A descriptor
byte is read in the layout of `SHIFT_DESCR` or `BIT_DESCR` (R105). -/
def State.fetchInstr (s : State) (k : Instr → State → Result) : Result :=
  let b0 := s.byte s.pc
  s.guardRead s.pc
    (s.guardReads (s.pc + 1#16) (instrLength b0 - 1)
      (k (decodeOpcode b0 (s.params.descriptor b0 (s.byte (s.pc + 1#16))) (s.byte (s.pc + 2#16)))
        { s with pc := s.pc + BitVec.ofNat 16 (instrLength b0) }))

/-- The machine with bytes stored from an address up, as a loader outside the machine puts them there. -/
def State.putBytes (s : State) (a : Word) : List Byte → State
  | [] => s
  | b :: bs => (s.putByte a b).putBytes (a + 1#16) bs

end Sys2Proof.Machine
end

