-- ==== Sys2Proof/Machine/Operands.lean ====
section
/-! DEFINITION. Every operand form (R94, R187, R189, R234, R235, R233) and the arithmetic of the results that are more
than one bit-vector operation: shifts (R236), square root (R307), products and quotients (R308 to R311). -/

namespace Sys2Proof

/-- How many bytes an access moves (R67), which is also the post-increment (R189). -/
def Width.bytes : Width → Word
  | .word => 2#16
  | .byte => 1#16

end Sys2Proof

namespace Sys2Proof.Machine

/-! ## Addresses -/

/-- The effective address (R187). -/
def State.address (s : State) : EA → Word
  | .ind r => s.reg r
  | .postInc r => s.reg r
  | .spRel m => s.sp + zext16 m
  | .abs addr => addr

/-- The update an addressing mode makes after the access at `a` (R189): post-increment adds the access size. -/
def State.bump (s : State) (w : Width) (a : Word) : EA → State
  | .ind _ => s
  | .postInc r => s.setReg r (a + w.bytes)
  | .spRel _ => s
  | .abs _ => s

/-- A load of either width (R67). -/
def State.loadSized (s : State) (w : Width) (a : Word) (k : Word → Result) : Result :=
  match w with
  | .word => s.loadWord a k
  | .byte => s.loadByte a k

/-- A store of either width (R67). -/
def State.storeSized (s : State) (w : Width) (a v : Word) (k : State → Result) : Result :=
  match w with
  | .word => s.storeWord a v k
  | .byte => s.storeByte a v k

/-- The target of a branch (R270): the displacement from the address of the next instruction, which `pc` already is,
moved by `BRANCH_BASE` where that is not the default (log 5). -/
def State.branchTarget (s : State) (dd : Byte) : Word := s.pc + s.params.branchBias + sext16 dd

/-- The constant of ADDQ (R97, R141). -/
def State.quickConstant (s : State) (sel : BitVec 2) : Word := (s.params.addqConst.value sel).word

/-! ## Shift counts and bit numbers -/

/-- The signed shift count, -16 to +15 (R106, R234, R235): the descriptor's five bits or the low five of a register. -/
def State.shiftCount (s : State) : ShiftCount → Int
  | .imm c => c.toInt
  | .reg b => ((s.reg b).extractLsb' 0 5).toInt

/-- The bit number, 0 to 15 (R107, R233): the descriptor's four bits or the low four of a register. -/
def State.bitNumber (s : State) : BitSel → Nat
  | .imm n => n.toNat
  | .reg b => ((s.reg b).extractLsb' 0 4).toNat

/-! ## Shifts -/

/-- One step left (R236): the value, and the bit moved out; `c` is the flag a rotate through carry takes in. -/
def shiftLeftOnce (k : ShiftKind) (v : Word) (c : Bool) : Word × Bool :=
  let low : BitVec 15 := v.extractLsb' 0 15
  match k with
  | .logical => (low ++ BitVec.ofBool false, v.msb)
  | .arithmetic => (low ++ BitVec.ofBool false, v.msb)
  | .rotate => (low ++ BitVec.ofBool v.msb, v.msb)
  | .rotateCarry => (low ++ BitVec.ofBool c, v.msb)

/-- One step right (R236). -/
def shiftRightOnce (k : ShiftKind) (v : Word) (c : Bool) : Word × Bool :=
  let high : BitVec 15 := v.extractLsb' 1 15
  let out := v.getLsbD 0
  match k with
  | .logical => (BitVec.ofBool false ++ high, out)
  | .arithmetic => (BitVec.ofBool v.msb ++ high, out)
  | .rotate => (BitVec.ofBool out ++ high, out)
  | .rotateCarry => (BitVec.ofBool c ++ high, out)

/-- `n` steps left, the flag following each (R236). -/
def shiftLeft (k : ShiftKind) : Nat → Word → Bool → Word × Bool
  | 0, v, c => (v, c)
  | n + 1, v, c => shiftLeft k n (shiftLeftOnce k v c).1 (shiftLeftOnce k v c).2

/-- `n` steps right, the flag following each (R236). -/
def shiftRight (k : ShiftKind) : Nat → Word → Bool → Word × Bool
  | 0, v, c => (v, c)
  | n + 1, v, c => shiftRight k n (shiftRightOnce k v c).1 (shiftRightOnce k v c).2

/-- The shift by a signed count (R234, R236): left where it is positive, right where it is negative. -/
def shiftBy (k : ShiftKind) (count : Int) (v : Word) (c : Bool) : Word × Bool :=
  if 0 ≤ count then shiftLeft k count.toNat v c else shiftRight k (-count).toNat v c

/-- The flag a shift takes in: C, but the flag of `ROX_LINK` for a rotate through carry (R236, R244). -/
def State.linkFlag (s : State) : ShiftKind → Bool
  | .logical => s.ps.c
  | .arithmetic => s.ps.c
  | .rotate => s.ps.c
  | .rotateCarry =>
    match s.params.roxLink with
    | .c => s.ps.c
    | .x => s.ps.x

/-- The flags after the last bit moved out of a shift by a non-zero count (R236): C takes it, and with `ROX_LINK` = X
a rotate through carry leaves it in X too (log 8). -/
def Flags.setShiftedOut (f : Flags) (k : ShiftKind) (link : Config.RoxLink) (out : Bool) : Flags :=
  match k, link with
  | .rotateCarry, .x => { f with c := out, x := out }
  | _, _ => { f with c := out }

/-- One bit of a word changed by a bit instruction (R247 to R249). -/
def bitResult (op : BitOp) (v : Word) (n : Nat) : Word :=
  match op with
  | .bset => v ||| (1#16 <<< n)
  | .bclr => v &&& ~~~(1#16 <<< n)
  | .bchg => v ^^^ (1#16 <<< n)

/-! ## Square root, products, quotients -/

/-- The largest `r` up to a bound with `r * r ≤ n`. -/
def rootUpTo (n : Nat) : Nat → Nat
  | 0 => 0
  | r + 1 => if (r + 1) * (r + 1) ≤ n then r + 1 else rootUpTo n r

/-- `floor(sqrt(u(v)))` (R307): at most 255. -/
def squareRoot (v : Word) : Word := BitVec.ofNat 16 (rootUpTo v.toNat 255)

/-- `u(a) * u(b)` in 32 bits (R308). -/
def productUnsigned (a b : Word) : BitVec 32 := BitVec.ofNat 32 (a.toNat * b.toNat)

/-- `s(a) * s(b)` in 32 bits (R309). -/
def productSigned (a b : Word) : BitVec 32 := BitVec.ofInt 32 (a.toInt * b.toInt)

/-- The unsigned quotient and remainder (R310). -/
def divideUnsigned (a b : Word) : Word × Word :=
  let q := a.toNat / b.toNat
  (BitVec.ofNat 16 q, BitVec.ofNat 16 (a.toNat - q * b.toNat))

/-- The signed quotient and remainder, exact (R311): rounded toward zero, or with a remainder that is never
negative. -/
def divideSigned (truncate : Bool) (a b : Int) : Int × Int :=
  if truncate then
    let q := a.tdiv b
    (q, a - q * b)
  else
    let r := a % (b.natAbs : Int)
    ((a - r).tdiv b, r)

end Sys2Proof.Machine
end

