-- ==== Sys2Proof/Machine/Branch.lean ====
section
/-! DEFINITION. Conditional branches, opcodes 0xE0 to 0xEF (R270 to R288). -/

namespace Sys2Proof.Machine

/-- Bcc dd (R270): `pc` moves to the target where the condition holds, and stays at the next instruction where it does
not. -/
def branchIf (c : Cond) (dd : Byte) (s : State) : Result :=
  .next (if c.holds s.ps then { s with pc := s.branchTarget dd } else s)

/-- 0xE0 `bcc dd` (R271). -/
def execBcc (dd : Byte) (s : State) : Result := branchIf .cc dd s

/-- 0xE1 `bcs dd` (R272). -/
def execBcs (dd : Byte) (s : State) : Result := branchIf .cs dd s

/-- 0xE2 `bne dd` (R273). -/
def execBne (dd : Byte) (s : State) : Result := branchIf .ne dd s

/-- 0xE3 `beq dd` (R274). -/
def execBeq (dd : Byte) (s : State) : Result := branchIf .eq dd s

/-- 0xE4 `bvc dd` (R275). -/
def execBvc (dd : Byte) (s : State) : Result := branchIf .vc dd s

/-- 0xE5 `bvs dd` (R276). -/
def execBvs (dd : Byte) (s : State) : Result := branchIf .vs dd s

/-- 0xE6 `bpl dd` (R277). -/
def execBpl (dd : Byte) (s : State) : Result := branchIf .pl dd s

/-- 0xE7 `bmi dd` (R278). -/
def execBmi (dd : Byte) (s : State) : Result := branchIf .mi dd s

/-- 0xE8 `bge dd` (R279). -/
def execBge (dd : Byte) (s : State) : Result := branchIf .ge dd s

/-- 0xE9 `blt dd` (R280). -/
def execBlt (dd : Byte) (s : State) : Result := branchIf .lt dd s

/-- 0xEA `bgt dd` (R281). -/
def execBgt (dd : Byte) (s : State) : Result := branchIf .gt dd s

/-- 0xEB `ble dd` (R282). -/
def execBle (dd : Byte) (s : State) : Result := branchIf .le dd s

/-- 0xEC `buc dd` (R283). -/
def execBuc (dd : Byte) (s : State) : Result := branchIf .uc dd s

/-- 0xED `bus dd` (R284). -/
def execBus (dd : Byte) (s : State) : Result := branchIf .us dd s

/-- 0xEE `bhi dd` (R285). -/
def execBhi (dd : Byte) (s : State) : Result := branchIf .hi dd s

/-- 0xEF `bls dd` (R286). -/
def execBls (dd : Byte) (s : State) : Result := branchIf .ls dd s

end Sys2Proof.Machine
end

