-- ==== Sys2Proof/Machine/ImmShiftBit.lean ====
section
/-! DEFINITION. Immediate loads, shifts and bit instructions, opcodes 0xD0 to 0xDF (R230 to R249). -/

namespace Sys2Proof.Machine

/-- LD.W RA, #data and LD.B RA, #data (R230, R231). -/
def loadImmediate (a : Reg) (v : Word) (s : State) : Result := .next ((s.setReg a v).setZN v)

/-- A shift by a signed count (R234, R236); a zero count writes Z and N only (R237). -/
def shiftCounted (a : Reg) (k : ShiftKind) (count : Int) (s : State) : Result :=
  if count = 0 then .next (s.setZN (s.reg a))
  else
    let q := shiftBy k count (s.reg a) (s.linkFlag k)
    .next { s.setReg a q.1 with ps := (s.ps.setZN q.1).setShiftedOut k s.params.roxLink q.2 }

/-- A shift or rotate (R232); the count register is read before RA is written (R235). -/
def shiftReg (a : Reg) (k : ShiftKind) (c : ShiftCount) (s : State) : Result := shiftCounted a k (s.shiftCount c) s

/-- BSET, BCLR and BCHG (R247 to R249): Z and N from the new value; the number register is read first (R233). -/
def bitReg (a : Reg) (op : BitOp) (n : BitSel) (s : State) : Result :=
  let r := bitResult op (s.reg a) (s.bitNumber n)
  .next ((s.setReg a r).setZN r)

/-- A shift by a raw descriptor byte (R232): a reserved one is refused (R110). -/
def shiftByDescriptor (a : Reg) (d : Byte) (s : State) : Result :=
  match shiftDescr d with
  | some (k, c) => shiftReg a k c s
  | none => .refused .reservedShiftDescriptor

/-- A bit instruction by a raw descriptor byte (R233): a reserved one is refused (R110). -/
def bitByDescriptor (a : Reg) (d : Byte) (s : State) : Result :=
  match bitDescr d with
  | some (op, n) => bitReg a op n s
  | none => .refused .reservedBitDescriptor

/-- 0xD0 `ld.w r0,#data16` (R230). -/
def execLdwR0Imm (data : Word) (s : State) : Result := loadImmediate .r0 data s

/-- 0xD1 `ld.w r1,#data16` (R230). -/
def execLdwR1Imm (data : Word) (s : State) : Result := loadImmediate .r1 data s

/-- 0xD2 `ld.w r2,#data16` (R230). -/
def execLdwR2Imm (data : Word) (s : State) : Result := loadImmediate .r2 data s

/-- 0xD3 `ld.w r3,#data16` (R230). -/
def execLdwR3Imm (data : Word) (s : State) : Result := loadImmediate .r3 data s

/-- 0xD4 `ld.b r0,#data8` (R231). -/
def execLdbR0Imm (data : Byte) (s : State) : Result := loadImmediate .r0 (zext16 data) s

/-- 0xD5 `ld.b r1,#data8` (R231). -/
def execLdbR1Imm (data : Byte) (s : State) : Result := loadImmediate .r1 (zext16 data) s

/-- 0xD6 `ld.b r2,#data8` (R231). -/
def execLdbR2Imm (data : Byte) (s : State) : Result := loadImmediate .r2 (zext16 data) s

/-- 0xD7 `ld.b r3,#data8` (R231). -/
def execLdbR3Imm (data : Byte) (s : State) : Result := loadImmediate .r3 (zext16 data) s

/-- 0xD8 `shift r0,descr` (R232). -/
def execShiftR0Descr (d : Byte) (s : State) : Result := shiftByDescriptor .r0 d s

/-- 0xD9 `shift r1,descr` (R232). -/
def execShiftR1Descr (d : Byte) (s : State) : Result := shiftByDescriptor .r1 d s

/-- 0xDA `shift r2,descr` (R232). -/
def execShiftR2Descr (d : Byte) (s : State) : Result := shiftByDescriptor .r2 d s

/-- 0xDB `shift r3,descr` (R232). -/
def execShiftR3Descr (d : Byte) (s : State) : Result := shiftByDescriptor .r3 d s

/-- 0xDC `bit r0,descr` (R233). -/
def execBitR0Descr (d : Byte) (s : State) : Result := bitByDescriptor .r0 d s

/-- 0xDD `bit r1,descr` (R233). -/
def execBitR1Descr (d : Byte) (s : State) : Result := bitByDescriptor .r1 d s

/-- 0xDE `bit r2,descr` (R233). -/
def execBitR2Descr (d : Byte) (s : State) : Result := bitByDescriptor .r2 d s

/-- 0xDF `bit r3,descr` (R233). -/
def execBitR3Descr (d : Byte) (s : State) : Result := bitByDescriptor .r3 d s

/-- 110110aa 0000nnnn `lsl rA,#n` (R240). -/
def execLslImm (a : Reg) (n : BitVec 4) (s : State) : Result := shiftReg a .logical (.imm (0#1 ++ n)) s

/-- 110110aa 0001nnnn `lsr rA,#n` (R241). -/
def execLsrImm (a : Reg) (n : BitVec 4) (s : State) : Result := shiftReg a .logical (.imm (1#1 ++ n)) s

/-- 110110aa 001000bb `lsl/lsr rA,rB` (R235). -/
def execLsReg (a : Reg) (b : Reg) (s : State) : Result := shiftReg a .logical (.reg b) s

/-- 110110aa 0100nnnn `asl rA,#n` (R238). -/
def execAslImm (a : Reg) (n : BitVec 4) (s : State) : Result := shiftReg a .arithmetic (.imm (0#1 ++ n)) s

/-- 110110aa 0101nnnn `asr rA,#n` (R239). -/
def execAsrImm (a : Reg) (n : BitVec 4) (s : State) : Result := shiftReg a .arithmetic (.imm (1#1 ++ n)) s

/-- 110110aa 011000bb `asl/asr rA,rB` (R235). -/
def execAsReg (a : Reg) (b : Reg) (s : State) : Result := shiftReg a .arithmetic (.reg b) s

/-- 110110aa 1000nnnn `rol rA,#n` (R242). -/
def execRolImm (a : Reg) (n : BitVec 4) (s : State) : Result := shiftReg a .rotate (.imm (0#1 ++ n)) s

/-- 110110aa 1001nnnn `ror rA,#n` (R243). -/
def execRorImm (a : Reg) (n : BitVec 4) (s : State) : Result := shiftReg a .rotate (.imm (1#1 ++ n)) s

/-- 110110aa 101000bb `rol/ror rA,rB` (R235). -/
def execRoReg (a : Reg) (b : Reg) (s : State) : Result := shiftReg a .rotate (.reg b) s

/-- 110110aa 1100nnnn `roxl rA,#n` (R244). -/
def execRoxlImm (a : Reg) (n : BitVec 4) (s : State) : Result := shiftReg a .rotateCarry (.imm (0#1 ++ n)) s

/-- 110110aa 1101nnnn `roxr rA,#n` (R245). -/
def execRoxrImm (a : Reg) (n : BitVec 4) (s : State) : Result := shiftReg a .rotateCarry (.imm (1#1 ++ n)) s

/-- 110110aa 111000bb `roxl/roxr rA,rB` (R235). -/
def execRoxReg (a : Reg) (b : Reg) (s : State) : Result := shiftReg a .rotateCarry (.reg b) s

/-- 110111aa 0100nnnn `bchg rA,#n` (R249). -/
def execBchgImm (a : Reg) (n : BitVec 4) (s : State) : Result := bitReg a .bchg (.imm n) s

/-- 110111aa 011000bb `bchg rA,rB` (R249). -/
def execBchgReg (a : Reg) (b : Reg) (s : State) : Result := bitReg a .bchg (.reg b) s

/-- 110111aa 1000nnnn `bclr rA,#n` (R248). -/
def execBclrImm (a : Reg) (n : BitVec 4) (s : State) : Result := bitReg a .bclr (.imm n) s

/-- 110111aa 101000bb `bclr rA,rB` (R248). -/
def execBclrReg (a : Reg) (b : Reg) (s : State) : Result := bitReg a .bclr (.reg b) s

/-- 110111aa 1100nnnn `bset rA,#n` (R247). -/
def execBsetImm (a : Reg) (n : BitVec 4) (s : State) : Result := bitReg a .bset (.imm n) s

/-- 110111aa 111000bb `bset rA,rB` (R247). -/
def execBsetReg (a : Reg) (b : Reg) (s : State) : Result := bitReg a .bset (.reg b) s

end Sys2Proof.Machine
end

