-- ==== Sys2Proof/Machine/LoadStore.lean ====
section
/-! DEFINITION. Loads and stores, opcodes 0x80 to 0xBF (R170 to R189): two shared meanings over width and addressing mode,
then one definition per opcode. -/

namespace Sys2Proof.Machine

/-- LD.W and LD.B (R170, R171, R174, R175, R178, R179, R182, R183): the value to the data register, Z and N from it
(R188), then the post-increment (R189). -/
def load (w : Width) (d : Reg) (ea : EA) (s : State) : Result :=
  s.loadSized w (s.address ea) (fun v => .next (((s.setReg d v).setZN v).bump w (s.address ea) ea))

/-- ST.W and ST.B (R172, R173, R176, R177, R180, R181, R184, R185): no flag is written (R188); then the
post-increment (R189). -/
def store (w : Width) (ea : EA) (d : Reg) (s : State) : Result :=
  s.storeSized w (s.address ea) (s.reg d) (fun s1 => .next (s1.bump w (s.address ea) ea))

/-- 0x80 `ld.w r0,(r2)` (R170). -/
def execLdwR0IndR2 (s : State) : Result := load .word .r0 (.ind .r2) s

/-- 0x81 `ld.w r1,(r2)` (R170). -/
def execLdwR1IndR2 (s : State) : Result := load .word .r1 (.ind .r2) s

/-- 0x82 `ld.w r0,(r3)` (R170). -/
def execLdwR0IndR3 (s : State) : Result := load .word .r0 (.ind .r3) s

/-- 0x83 `ld.w r1,(r3)` (R170). -/
def execLdwR1IndR3 (s : State) : Result := load .word .r1 (.ind .r3) s

/-- 0x84 `ld.b r0,(r2)` (R171). -/
def execLdbR0IndR2 (s : State) : Result := load .byte .r0 (.ind .r2) s

/-- 0x85 `ld.b r1,(r2)` (R171). -/
def execLdbR1IndR2 (s : State) : Result := load .byte .r1 (.ind .r2) s

/-- 0x86 `ld.b r0,(r3)` (R171). -/
def execLdbR0IndR3 (s : State) : Result := load .byte .r0 (.ind .r3) s

/-- 0x87 `ld.b r1,(r3)` (R171). -/
def execLdbR1IndR3 (s : State) : Result := load .byte .r1 (.ind .r3) s

/-- 0x88 `st.w (r2),r0` (R172). -/
def execStwIndR2R0 (s : State) : Result := store .word (.ind .r2) .r0 s

/-- 0x89 `st.w (r2),r1` (R172). -/
def execStwIndR2R1 (s : State) : Result := store .word (.ind .r2) .r1 s

/-- 0x8A `st.w (r3),r0` (R172). -/
def execStwIndR3R0 (s : State) : Result := store .word (.ind .r3) .r0 s

/-- 0x8B `st.w (r3),r1` (R172). -/
def execStwIndR3R1 (s : State) : Result := store .word (.ind .r3) .r1 s

/-- 0x8C `st.b (r2),r0` (R173). -/
def execStbIndR2R0 (s : State) : Result := store .byte (.ind .r2) .r0 s

/-- 0x8D `st.b (r2),r1` (R173). -/
def execStbIndR2R1 (s : State) : Result := store .byte (.ind .r2) .r1 s

/-- 0x8E `st.b (r3),r0` (R173). -/
def execStbIndR3R0 (s : State) : Result := store .byte (.ind .r3) .r0 s

/-- 0x8F `st.b (r3),r1` (R173). -/
def execStbIndR3R1 (s : State) : Result := store .byte (.ind .r3) .r1 s

/-- 0x90 `ld.w r0,(r2++)` (R174). -/
def execLdwR0IncR2 (s : State) : Result := load .word .r0 (.postInc .r2) s

/-- 0x91 `ld.w r1,(r2++)` (R174). -/
def execLdwR1IncR2 (s : State) : Result := load .word .r1 (.postInc .r2) s

/-- 0x92 `ld.w r0,(r3++)` (R174). -/
def execLdwR0IncR3 (s : State) : Result := load .word .r0 (.postInc .r3) s

/-- 0x93 `ld.w r1,(r3++)` (R174). -/
def execLdwR1IncR3 (s : State) : Result := load .word .r1 (.postInc .r3) s

/-- 0x94 `ld.b r0,(r2++)` (R175). -/
def execLdbR0IncR2 (s : State) : Result := load .byte .r0 (.postInc .r2) s

/-- 0x95 `ld.b r1,(r2++)` (R175). -/
def execLdbR1IncR2 (s : State) : Result := load .byte .r1 (.postInc .r2) s

/-- 0x96 `ld.b r0,(r3++)` (R175). -/
def execLdbR0IncR3 (s : State) : Result := load .byte .r0 (.postInc .r3) s

/-- 0x97 `ld.b r1,(r3++)` (R175). -/
def execLdbR1IncR3 (s : State) : Result := load .byte .r1 (.postInc .r3) s

/-- 0x98 `st.w (r2++),r0` (R176). -/
def execStwIncR2R0 (s : State) : Result := store .word (.postInc .r2) .r0 s

/-- 0x99 `st.w (r2++),r1` (R176). -/
def execStwIncR2R1 (s : State) : Result := store .word (.postInc .r2) .r1 s

/-- 0x9A `st.w (r3++),r0` (R176). -/
def execStwIncR3R0 (s : State) : Result := store .word (.postInc .r3) .r0 s

/-- 0x9B `st.w (r3++),r1` (R176). -/
def execStwIncR3R1 (s : State) : Result := store .word (.postInc .r3) .r1 s

/-- 0x9C `st.b (r2++),r0` (R177). -/
def execStbIncR2R0 (s : State) : Result := store .byte (.postInc .r2) .r0 s

/-- 0x9D `st.b (r2++),r1` (R177). -/
def execStbIncR2R1 (s : State) : Result := store .byte (.postInc .r2) .r1 s

/-- 0x9E `st.b (r3++),r0` (R177). -/
def execStbIncR3R0 (s : State) : Result := store .byte (.postInc .r3) .r0 s

/-- 0x9F `st.b (r3++),r1` (R177). -/
def execStbIncR3R1 (s : State) : Result := store .byte (.postInc .r3) .r1 s

/-- 0xA0 `ld.w r0,(sp+m)` (R178). -/
def execLdwR0Sp (m : Byte) (s : State) : Result := load .word .r0 (.spRel m) s

/-- 0xA1 `ld.w r1,(sp+m)` (R178). -/
def execLdwR1Sp (m : Byte) (s : State) : Result := load .word .r1 (.spRel m) s

/-- 0xA2 `ld.w r2,(sp+m)` (R178). -/
def execLdwR2Sp (m : Byte) (s : State) : Result := load .word .r2 (.spRel m) s

/-- 0xA3 `ld.w r3,(sp+m)` (R178). -/
def execLdwR3Sp (m : Byte) (s : State) : Result := load .word .r3 (.spRel m) s

/-- 0xA4 `ld.b r0,(sp+m)` (R179). -/
def execLdbR0Sp (m : Byte) (s : State) : Result := load .byte .r0 (.spRel m) s

/-- 0xA5 `ld.b r1,(sp+m)` (R179). -/
def execLdbR1Sp (m : Byte) (s : State) : Result := load .byte .r1 (.spRel m) s

/-- 0xA6 `ld.b r2,(sp+m)` (R179). -/
def execLdbR2Sp (m : Byte) (s : State) : Result := load .byte .r2 (.spRel m) s

/-- 0xA7 `ld.b r3,(sp+m)` (R179). -/
def execLdbR3Sp (m : Byte) (s : State) : Result := load .byte .r3 (.spRel m) s

/-- 0xA8 `st.w (sp+m),r0` (R180). -/
def execStwSpR0 (m : Byte) (s : State) : Result := store .word (.spRel m) .r0 s

/-- 0xA9 `st.w (sp+m),r1` (R180). -/
def execStwSpR1 (m : Byte) (s : State) : Result := store .word (.spRel m) .r1 s

/-- 0xAA `st.w (sp+m),r2` (R180). -/
def execStwSpR2 (m : Byte) (s : State) : Result := store .word (.spRel m) .r2 s

/-- 0xAB `st.w (sp+m),r3` (R180). -/
def execStwSpR3 (m : Byte) (s : State) : Result := store .word (.spRel m) .r3 s

/-- 0xAC `st.b (sp+m),r0` (R181). -/
def execStbSpR0 (m : Byte) (s : State) : Result := store .byte (.spRel m) .r0 s

/-- 0xAD `st.b (sp+m),r1` (R181). -/
def execStbSpR1 (m : Byte) (s : State) : Result := store .byte (.spRel m) .r1 s

/-- 0xAE `st.b (sp+m),r2` (R181). -/
def execStbSpR2 (m : Byte) (s : State) : Result := store .byte (.spRel m) .r2 s

/-- 0xAF `st.b (sp+m),r3` (R181). -/
def execStbSpR3 (m : Byte) (s : State) : Result := store .byte (.spRel m) .r3 s

/-- 0xB0 `ld.w r0,addr` (R182). -/
def execLdwR0Abs (addr : Word) (s : State) : Result := load .word .r0 (.abs addr) s

/-- 0xB1 `ld.w r1,addr` (R182). -/
def execLdwR1Abs (addr : Word) (s : State) : Result := load .word .r1 (.abs addr) s

/-- 0xB2 `ld.w r2,addr` (R182). -/
def execLdwR2Abs (addr : Word) (s : State) : Result := load .word .r2 (.abs addr) s

/-- 0xB3 `ld.w r3,addr` (R182). -/
def execLdwR3Abs (addr : Word) (s : State) : Result := load .word .r3 (.abs addr) s

/-- 0xB4 `ld.b r0,addr` (R183). -/
def execLdbR0Abs (addr : Word) (s : State) : Result := load .byte .r0 (.abs addr) s

/-- 0xB5 `ld.b r1,addr` (R183). -/
def execLdbR1Abs (addr : Word) (s : State) : Result := load .byte .r1 (.abs addr) s

/-- 0xB6 `ld.b r2,addr` (R183). -/
def execLdbR2Abs (addr : Word) (s : State) : Result := load .byte .r2 (.abs addr) s

/-- 0xB7 `ld.b r3,addr` (R183). -/
def execLdbR3Abs (addr : Word) (s : State) : Result := load .byte .r3 (.abs addr) s

/-- 0xB8 `st.w addr,r0` (R184). -/
def execStwAbsR0 (addr : Word) (s : State) : Result := store .word (.abs addr) .r0 s

/-- 0xB9 `st.w addr,r1` (R184). -/
def execStwAbsR1 (addr : Word) (s : State) : Result := store .word (.abs addr) .r1 s

/-- 0xBA `st.w addr,r2` (R184). -/
def execStwAbsR2 (addr : Word) (s : State) : Result := store .word (.abs addr) .r2 s

/-- 0xBB `st.w addr,r3` (R184). -/
def execStwAbsR3 (addr : Word) (s : State) : Result := store .word (.abs addr) .r3 s

/-- 0xBC `st.b addr,r0` (R185). -/
def execStbAbsR0 (addr : Word) (s : State) : Result := store .byte (.abs addr) .r0 s

/-- 0xBD `st.b addr,r1` (R185). -/
def execStbAbsR1 (addr : Word) (s : State) : Result := store .byte (.abs addr) .r1 s

/-- 0xBE `st.b addr,r2` (R185). -/
def execStbAbsR2 (addr : Word) (s : State) : Result := store .byte (.abs addr) .r2 s

/-- 0xBF `st.b addr,r3` (R185). -/
def execStbAbsR3 (addr : Word) (s : State) : Result := store .byte (.abs addr) .r3 s

end Sys2Proof.Machine
end

