-- ==== Sys2Proof/Machine/Alu.lean ====
section
/-! DEFINITION. Register move and ALU instructions, opcodes 0x00 to 0x7F (R130 to R147): the shared meanings, then one
definition per opcode. `pc` already is the address of the next instruction (R23). -/

namespace Sys2Proof.Machine

/-- The machine with a result in a register and Z, N from it (R33). -/
def State.result (s : State) (a : Reg) (r : Word) : Result := .next ((s.setReg a r).setZN r)

/-- The machine with a sum or difference in a register and Z, N, C, V, X from it (R33, R36). -/
def State.sumResult (s : State) (a : Reg) (q : AddResult) : Result :=
  .next { s.setReg a q.r with ps := s.ps.setSum q }

/-- SXT RA (R130): sign-extends the least significant byte. -/
def signExtendByte (a : Reg) (s : State) : Result := s.result a (sext16 ((s.reg a).extractLsb' 0 8))

/-- MOVE RA, RB (R131). -/
def moveReg (a b : Reg) (s : State) : Result := s.result a (s.reg b)

/-- TEST RA (R132): no register is written. -/
def testReg (a : Reg) (s : State) : Result := .next (s.setZN (s.reg a))

/-- AND RA, RB (R133). -/
def andReg (a b : Reg) (s : State) : Result := s.result a (s.reg a &&& s.reg b)

/-- XOR RA, RB (R134); with A = B it is CLR RA (R137). -/
def xorReg (a b : Reg) (s : State) : Result := s.result a (s.reg a ^^^ s.reg b)

/-- INV RA (R135). -/
def invertReg (a : Reg) (s : State) : Result := s.result a (~~~(s.reg a))

/-- OR RA, RB (R136). -/
def orReg (a b : Reg) (s : State) : Result := s.result a (s.reg a ||| s.reg b)

/-- ADD RA, RB (R138). -/
def addReg (a b : Reg) (s : State) : Result := s.sumResult a (add16 (s.reg a) (s.reg b) false)

/-- ADDQ RA, #small (R141): the flags of ADD of the constant. -/
def addQuick (a : Reg) (sel : BitVec 2) (s : State) : Result :=
  s.sumResult a (add16 (s.reg a) (s.quickConstant sel) false)

/-- NEG RA (R143). -/
def negateReg (a : Reg) (s : State) : Result := s.sumResult a (sub16 0#16 (s.reg a) false)

/-- SUB RA, RB (R142). -/
def subReg (a b : Reg) (s : State) : Result := s.sumResult a (sub16 (s.reg a) (s.reg b) false)

/-- ABS RA (R144): Z, N from the result, V for 0x8000 only; C and X are left alone. -/
def absReg (a : Reg) (s : State) : Result :=
  let v := s.reg a
  let r := if v.msb then 0#16 - v else v
  .next { s.setReg a r with ps := { s.ps.setZN r with v := v == 0x8000#16 } }

/-- CMP RA, RB (R145): the difference is discarded; X is left alone. -/
def compareReg (a b : Reg) (s : State) : Result :=
  .next { s with ps := s.ps.setCompare (sub16 (s.reg a) (s.reg b) false) }

/-- 0x00 `sxt r0` (R130). -/
def execSxtR0 (s : State) : Result := signExtendByte .r0 s

/-- 0x01 `move r1,r0` (R131). -/
def execMoveR1R0 (s : State) : Result := moveReg .r1 .r0 s

/-- 0x02 `move r2,r0` (R131). -/
def execMoveR2R0 (s : State) : Result := moveReg .r2 .r0 s

/-- 0x03 `move r3,r0` (R131). -/
def execMoveR3R0 (s : State) : Result := moveReg .r3 .r0 s

/-- 0x04 `move r0,r1` (R131). -/
def execMoveR0R1 (s : State) : Result := moveReg .r0 .r1 s

/-- 0x05 `sxt r1` (R130). -/
def execSxtR1 (s : State) : Result := signExtendByte .r1 s

/-- 0x06 `move r2,r1` (R131). -/
def execMoveR2R1 (s : State) : Result := moveReg .r2 .r1 s

/-- 0x07 `move r3,r1` (R131). -/
def execMoveR3R1 (s : State) : Result := moveReg .r3 .r1 s

/-- 0x08 `move r0,r2` (R131). -/
def execMoveR0R2 (s : State) : Result := moveReg .r0 .r2 s

/-- 0x09 `move r1,r2` (R131). -/
def execMoveR1R2 (s : State) : Result := moveReg .r1 .r2 s

/-- 0x0A `sxt r2` (R130). -/
def execSxtR2 (s : State) : Result := signExtendByte .r2 s

/-- 0x0B `move r3,r2` (R131). -/
def execMoveR3R2 (s : State) : Result := moveReg .r3 .r2 s

/-- 0x0C `move r0,r3` (R131). -/
def execMoveR0R3 (s : State) : Result := moveReg .r0 .r3 s

/-- 0x0D `move r1,r3` (R131). -/
def execMoveR1R3 (s : State) : Result := moveReg .r1 .r3 s

/-- 0x0E `move r2,r3` (R131). -/
def execMoveR2R3 (s : State) : Result := moveReg .r2 .r3 s

/-- 0x0F `sxt r3` (R130). -/
def execSxtR3 (s : State) : Result := signExtendByte .r3 s

/-- 0x10 `test r0` (R132). -/
def execTestR0 (s : State) : Result := testReg .r0 s

/-- 0x11 `and r1,r0` (R133). -/
def execAndR1R0 (s : State) : Result := andReg .r1 .r0 s

/-- 0x12 `and r2,r0` (R133). -/
def execAndR2R0 (s : State) : Result := andReg .r2 .r0 s

/-- 0x13 `and r3,r0` (R133). -/
def execAndR3R0 (s : State) : Result := andReg .r3 .r0 s

/-- 0x14 `and r0,r1` (R133). -/
def execAndR0R1 (s : State) : Result := andReg .r0 .r1 s

/-- 0x15 `test r1` (R132). -/
def execTestR1 (s : State) : Result := testReg .r1 s

/-- 0x16 `and r2,r1` (R133). -/
def execAndR2R1 (s : State) : Result := andReg .r2 .r1 s

/-- 0x17 `and r3,r1` (R133). -/
def execAndR3R1 (s : State) : Result := andReg .r3 .r1 s

/-- 0x18 `and r0,r2` (R133). -/
def execAndR0R2 (s : State) : Result := andReg .r0 .r2 s

/-- 0x19 `and r1,r2` (R133). -/
def execAndR1R2 (s : State) : Result := andReg .r1 .r2 s

/-- 0x1A `test r2` (R132). -/
def execTestR2 (s : State) : Result := testReg .r2 s

/-- 0x1B `and r3,r2` (R133). -/
def execAndR3R2 (s : State) : Result := andReg .r3 .r2 s

/-- 0x1C `and r0,r3` (R133). -/
def execAndR0R3 (s : State) : Result := andReg .r0 .r3 s

/-- 0x1D `and r1,r3` (R133). -/
def execAndR1R3 (s : State) : Result := andReg .r1 .r3 s

/-- 0x1E `and r2,r3` (R133). -/
def execAndR2R3 (s : State) : Result := andReg .r2 .r3 s

/-- 0x1F `test r3` (R132). -/
def execTestR3 (s : State) : Result := testReg .r3 s

/-- 0x20 `xor r0,r0` (R134). -/
def execXorR0R0 (s : State) : Result := xorReg .r0 .r0 s

/-- 0x21 `xor r1,r0` (R134). -/
def execXorR1R0 (s : State) : Result := xorReg .r1 .r0 s

/-- 0x22 `xor r2,r0` (R134). -/
def execXorR2R0 (s : State) : Result := xorReg .r2 .r0 s

/-- 0x23 `xor r3,r0` (R134). -/
def execXorR3R0 (s : State) : Result := xorReg .r3 .r0 s

/-- 0x24 `xor r0,r1` (R134). -/
def execXorR0R1 (s : State) : Result := xorReg .r0 .r1 s

/-- 0x25 `xor r1,r1` (R134). -/
def execXorR1R1 (s : State) : Result := xorReg .r1 .r1 s

/-- 0x26 `xor r2,r1` (R134). -/
def execXorR2R1 (s : State) : Result := xorReg .r2 .r1 s

/-- 0x27 `xor r3,r1` (R134). -/
def execXorR3R1 (s : State) : Result := xorReg .r3 .r1 s

/-- 0x28 `xor r0,r2` (R134). -/
def execXorR0R2 (s : State) : Result := xorReg .r0 .r2 s

/-- 0x29 `xor r1,r2` (R134). -/
def execXorR1R2 (s : State) : Result := xorReg .r1 .r2 s

/-- 0x2A `xor r2,r2` (R134). -/
def execXorR2R2 (s : State) : Result := xorReg .r2 .r2 s

/-- 0x2B `xor r3,r2` (R134). -/
def execXorR3R2 (s : State) : Result := xorReg .r3 .r2 s

/-- 0x2C `xor r0,r3` (R134). -/
def execXorR0R3 (s : State) : Result := xorReg .r0 .r3 s

/-- 0x2D `xor r1,r3` (R134). -/
def execXorR1R3 (s : State) : Result := xorReg .r1 .r3 s

/-- 0x2E `xor r2,r3` (R134). -/
def execXorR2R3 (s : State) : Result := xorReg .r2 .r3 s

/-- 0x2F `xor r3,r3` (R134). -/
def execXorR3R3 (s : State) : Result := xorReg .r3 .r3 s

/-- 0x30 `inv r0` (R135). -/
def execInvR0 (s : State) : Result := invertReg .r0 s

/-- 0x31 `or r1,r0` (R136). -/
def execOrR1R0 (s : State) : Result := orReg .r1 .r0 s

/-- 0x32 `or r2,r0` (R136). -/
def execOrR2R0 (s : State) : Result := orReg .r2 .r0 s

/-- 0x33 `or r3,r0` (R136). -/
def execOrR3R0 (s : State) : Result := orReg .r3 .r0 s

/-- 0x34 `or r0,r1` (R136). -/
def execOrR0R1 (s : State) : Result := orReg .r0 .r1 s

/-- 0x35 `inv r1` (R135). -/
def execInvR1 (s : State) : Result := invertReg .r1 s

/-- 0x36 `or r2,r1` (R136). -/
def execOrR2R1 (s : State) : Result := orReg .r2 .r1 s

/-- 0x37 `or r3,r1` (R136). -/
def execOrR3R1 (s : State) : Result := orReg .r3 .r1 s

/-- 0x38 `or r0,r2` (R136). -/
def execOrR0R2 (s : State) : Result := orReg .r0 .r2 s

/-- 0x39 `or r1,r2` (R136). -/
def execOrR1R2 (s : State) : Result := orReg .r1 .r2 s

/-- 0x3A `inv r2` (R135). -/
def execInvR2 (s : State) : Result := invertReg .r2 s

/-- 0x3B `or r3,r2` (R136). -/
def execOrR3R2 (s : State) : Result := orReg .r3 .r2 s

/-- 0x3C `or r0,r3` (R136). -/
def execOrR0R3 (s : State) : Result := orReg .r0 .r3 s

/-- 0x3D `or r1,r3` (R136). -/
def execOrR1R3 (s : State) : Result := orReg .r1 .r3 s

/-- 0x3E `or r2,r3` (R136). -/
def execOrR2R3 (s : State) : Result := orReg .r2 .r3 s

/-- 0x3F `inv r3` (R135). -/
def execInvR3 (s : State) : Result := invertReg .r3 s

/-- 0x40 `add r0,r0` (R138). -/
def execAddR0R0 (s : State) : Result := addReg .r0 .r0 s

/-- 0x41 `add r1,r0` (R138). -/
def execAddR1R0 (s : State) : Result := addReg .r1 .r0 s

/-- 0x42 `add r2,r0` (R138). -/
def execAddR2R0 (s : State) : Result := addReg .r2 .r0 s

/-- 0x43 `add r3,r0` (R138). -/
def execAddR3R0 (s : State) : Result := addReg .r3 .r0 s

/-- 0x44 `add r0,r1` (R138). -/
def execAddR0R1 (s : State) : Result := addReg .r0 .r1 s

/-- 0x45 `add r1,r1` (R138). -/
def execAddR1R1 (s : State) : Result := addReg .r1 .r1 s

/-- 0x46 `add r2,r1` (R138). -/
def execAddR2R1 (s : State) : Result := addReg .r2 .r1 s

/-- 0x47 `add r3,r1` (R138). -/
def execAddR3R1 (s : State) : Result := addReg .r3 .r1 s

/-- 0x48 `add r0,r2` (R138). -/
def execAddR0R2 (s : State) : Result := addReg .r0 .r2 s

/-- 0x49 `add r1,r2` (R138). -/
def execAddR1R2 (s : State) : Result := addReg .r1 .r2 s

/-- 0x4A `add r2,r2` (R138). -/
def execAddR2R2 (s : State) : Result := addReg .r2 .r2 s

/-- 0x4B `add r3,r2` (R138). -/
def execAddR3R2 (s : State) : Result := addReg .r3 .r2 s

/-- 0x4C `add r0,r3` (R138). -/
def execAddR0R3 (s : State) : Result := addReg .r0 .r3 s

/-- 0x4D `add r1,r3` (R138). -/
def execAddR1R3 (s : State) : Result := addReg .r1 .r3 s

/-- 0x4E `add r2,r3` (R138). -/
def execAddR2R3 (s : State) : Result := addReg .r2 .r3 s

/-- 0x4F `add r3,r3` (R138). -/
def execAddR3R3 (s : State) : Result := addReg .r3 .r3 s

/-- 0x50 `addq r0,#2` (R141). -/
def execAddqR0S0 (s : State) : Result := addQuick .r0 0#2 s

/-- 0x51 `addq r1,#2` (R141). -/
def execAddqR1S0 (s : State) : Result := addQuick .r1 0#2 s

/-- 0x52 `addq r2,#2` (R141). -/
def execAddqR2S0 (s : State) : Result := addQuick .r2 0#2 s

/-- 0x53 `addq r3,#2` (R141). -/
def execAddqR3S0 (s : State) : Result := addQuick .r3 0#2 s

/-- 0x54 `addq r0,#1` (R141). -/
def execAddqR0S1 (s : State) : Result := addQuick .r0 1#2 s

/-- 0x55 `addq r1,#1` (R141). -/
def execAddqR1S1 (s : State) : Result := addQuick .r1 1#2 s

/-- 0x56 `addq r2,#1` (R141). -/
def execAddqR2S1 (s : State) : Result := addQuick .r2 1#2 s

/-- 0x57 `addq r3,#1` (R141). -/
def execAddqR3S1 (s : State) : Result := addQuick .r3 1#2 s

/-- 0x58 `addq r0,#-2` (R141). -/
def execAddqR0S2 (s : State) : Result := addQuick .r0 2#2 s

/-- 0x59 `addq r1,#-2` (R141). -/
def execAddqR1S2 (s : State) : Result := addQuick .r1 2#2 s

/-- 0x5A `addq r2,#-2` (R141). -/
def execAddqR2S2 (s : State) : Result := addQuick .r2 2#2 s

/-- 0x5B `addq r3,#-2` (R141). -/
def execAddqR3S2 (s : State) : Result := addQuick .r3 2#2 s

/-- 0x5C `addq r0,#-1` (R141). -/
def execAddqR0S3 (s : State) : Result := addQuick .r0 3#2 s

/-- 0x5D `addq r1,#-1` (R141). -/
def execAddqR1S3 (s : State) : Result := addQuick .r1 3#2 s

/-- 0x5E `addq r2,#-1` (R141). -/
def execAddqR2S3 (s : State) : Result := addQuick .r2 3#2 s

/-- 0x5F `addq r3,#-1` (R141). -/
def execAddqR3S3 (s : State) : Result := addQuick .r3 3#2 s

/-- 0x60 `neg r0` (R143). -/
def execNegR0 (s : State) : Result := negateReg .r0 s

/-- 0x61 `sub r1,r0` (R142). -/
def execSubR1R0 (s : State) : Result := subReg .r1 .r0 s

/-- 0x62 `sub r2,r0` (R142). -/
def execSubR2R0 (s : State) : Result := subReg .r2 .r0 s

/-- 0x63 `sub r3,r0` (R142). -/
def execSubR3R0 (s : State) : Result := subReg .r3 .r0 s

/-- 0x64 `sub r0,r1` (R142). -/
def execSubR0R1 (s : State) : Result := subReg .r0 .r1 s

/-- 0x65 `neg r1` (R143). -/
def execNegR1 (s : State) : Result := negateReg .r1 s

/-- 0x66 `sub r2,r1` (R142). -/
def execSubR2R1 (s : State) : Result := subReg .r2 .r1 s

/-- 0x67 `sub r3,r1` (R142). -/
def execSubR3R1 (s : State) : Result := subReg .r3 .r1 s

/-- 0x68 `sub r0,r2` (R142). -/
def execSubR0R2 (s : State) : Result := subReg .r0 .r2 s

/-- 0x69 `sub r1,r2` (R142). -/
def execSubR1R2 (s : State) : Result := subReg .r1 .r2 s

/-- 0x6A `neg r2` (R143). -/
def execNegR2 (s : State) : Result := negateReg .r2 s

/-- 0x6B `sub r3,r2` (R142). -/
def execSubR3R2 (s : State) : Result := subReg .r3 .r2 s

/-- 0x6C `sub r0,r3` (R142). -/
def execSubR0R3 (s : State) : Result := subReg .r0 .r3 s

/-- 0x6D `sub r1,r3` (R142). -/
def execSubR1R3 (s : State) : Result := subReg .r1 .r3 s

/-- 0x6E `sub r2,r3` (R142). -/
def execSubR2R3 (s : State) : Result := subReg .r2 .r3 s

/-- 0x6F `neg r3` (R143). -/
def execNegR3 (s : State) : Result := negateReg .r3 s

/-- 0x70 `abs r0` (R144). -/
def execAbsR0 (s : State) : Result := absReg .r0 s

/-- 0x71 `cmp r1,r0` (R145). -/
def execCmpR1R0 (s : State) : Result := compareReg .r1 .r0 s

/-- 0x72 `cmp r2,r0` (R145). -/
def execCmpR2R0 (s : State) : Result := compareReg .r2 .r0 s

/-- 0x73 `cmp r3,r0` (R145). -/
def execCmpR3R0 (s : State) : Result := compareReg .r3 .r0 s

/-- 0x74 `cmp r0,r1` (R145). -/
def execCmpR0R1 (s : State) : Result := compareReg .r0 .r1 s

/-- 0x75 `abs r1` (R144). -/
def execAbsR1 (s : State) : Result := absReg .r1 s

/-- 0x76 `cmp r2,r1` (R145). -/
def execCmpR2R1 (s : State) : Result := compareReg .r2 .r1 s

/-- 0x77 `cmp r3,r1` (R145). -/
def execCmpR3R1 (s : State) : Result := compareReg .r3 .r1 s

/-- 0x78 `cmp r0,r2` (R145). -/
def execCmpR0R2 (s : State) : Result := compareReg .r0 .r2 s

/-- 0x79 `cmp r1,r2` (R145). -/
def execCmpR1R2 (s : State) : Result := compareReg .r1 .r2 s

/-- 0x7A `abs r2` (R144). -/
def execAbsR2 (s : State) : Result := absReg .r2 s

/-- 0x7B `cmp r3,r2` (R145). -/
def execCmpR3R2 (s : State) : Result := compareReg .r3 .r2 s

/-- 0x7C `cmp r0,r3` (R145). -/
def execCmpR0R3 (s : State) : Result := compareReg .r0 .r3 s

/-- 0x7D `cmp r1,r3` (R145). -/
def execCmpR1R3 (s : State) : Result := compareReg .r1 .r3 s

/-- 0x7E `cmp r2,r3` (R145). -/
def execCmpR2R3 (s : State) : Result := compareReg .r2 .r3 s

/-- 0x7F `abs r3` (R144). -/
def execAbsR3 (s : State) : Result := absReg .r3 s

end Sys2Proof.Machine
end

