-- ==== Sys2Proof/Machine/Stack.lean ====
section
/-! DEFINITION. Stack, subroutine and trap instructions, opcodes 0xC0 to 0xCF (R200 to R211). `pc` already is the address of the
next instruction (R23), which is what calls and traps push. -/

namespace Sys2Proof.Machine

/-- POP RA (R200): no flag is written. -/
def popReg (a : Reg) (s : State) : Result := s.pop16 (fun v s1 => .next (s1.setReg a v))

/-- POP PS (R201): all seven flags. -/
def popStatus (s : State) : Result := s.pop16 (fun w s1 => .next (s1.setPs w))

/-- A NOP (R202, R315): nothing but the advance of `pc`. -/
def noOperation (s : State) : Result := .next s

/-- RET (R203). -/
def returnFromSubroutine (s : State) : Result := s.pop16 (fun a s1 => .next { s1 with pc := a })

/-- PUSH RA (R206). -/
def pushReg (a : Reg) (s : State) : Result := s.push16 (s.reg a) (fun s1 => .next s1)

/-- PUSH PS (R207). -/
def pushStatus (s : State) : Result := s.pushPsWord (fun s1 => .next s1)

/-- JSR (R209, R210): the address of the next instruction is pushed. -/
def callAddress (t : Word) (s : State) : Result := s.push16 s.pc (fun s1 => .next { s1 with pc := t })

/-- 0xC0 `pop r0` (R200). -/
def execPopR0 (s : State) : Result := popReg .r0 s

/-- 0xC1 `pop r1` (R200). -/
def execPopR1 (s : State) : Result := popReg .r1 s

/-- 0xC2 `pop r2` (R200). -/
def execPopR2 (s : State) : Result := popReg .r2 s

/-- 0xC3 `pop r3` (R200). -/
def execPopR3 (s : State) : Result := popReg .r3 s

/-- 0xC4 `pop ps` (R201). -/
def execPopPs (s : State) : Result := popStatus s

/-- 0xC5 `nop (0xC5)` (R202). -/
def execNopC5 (s : State) : Result := noOperation s

/-- 0xC6 `ret` (R203). -/
def execRet (s : State) : Result := returnFromSubroutine s

/-- 0xC7 `reti` (R205). -/
def execReti (s : State) : Result := s.returnFromTrap

/-- 0xC8 `push r0` (R206). -/
def execPushR0 (s : State) : Result := pushReg .r0 s

/-- 0xC9 `push r1` (R206). -/
def execPushR1 (s : State) : Result := pushReg .r1 s

/-- 0xCA `push r2` (R206). -/
def execPushR2 (s : State) : Result := pushReg .r2 s

/-- 0xCB `push r3` (R206). -/
def execPushR3 (s : State) : Result := pushReg .r3 s

/-- 0xCC `push ps` (R207). -/
def execPushPs (s : State) : Result := pushStatus s

/-- 0xCD `trap #n` (R208, R347): the hardware does not use n. -/
def execTrap (_n : Byte) (s : State) : Result := s.takeException .trap

/-- 0xCE `jsr (r0)` (R209). -/
def execJsrR0 (s : State) : Result := callAddress (s.reg .r0) s

/-- 0xCF `jsr addr` (R210). -/
def execJsrAddr (addr : Word) (s : State) : Result := callAddress addr s

end Sys2Proof.Machine
end

