-- ==== Sys2Proof/Machine/Misc.lean ====
section
/-! DEFINITION. Miscellaneous instructions, opcodes 0xF0 to 0xFF (R300 to R316). -/

namespace Sys2Proof.Machine

/-- JMP (R302, R303): the target is used as it is. -/
def jumpTo (t : Word) (s : State) : Result := .next { s with pc := t }

/-- Two words into two registers, in that order (R308 to R311). -/
def State.setPair (s : State) (a b : Reg) (v w : Word) : State := (s.setReg a v).setReg b w

/-- MULU and MULS from their product (R308, R309): `MULDIV_DEST`, and Z, N of the 32 bits. -/
def multiplyResult (p : BitVec 32) (s : State) : Result :=
  let t := s.setPair s.params.mulDivDest.prodLow s.params.mulDivDest.prodHigh (p.extractLsb' 0 16) (p.extractLsb' 16 16)
  .next { t with ps := s.ps.setProduct p }

/-- Quotient and remainder to `MULDIV_DEST`, Z and N of the quotient (R310, R311). -/
def State.divideResult (s : State) (q r : Word) : State :=
  (s.setPair s.params.mulDivDest.quotient s.params.mulDivDest.remainder q r).setZN q

/-- 0xF0 `move r0,sp` (R300): no flag is written. -/
def execMoveR0Sp (s : State) : Result := .next (s.setReg .r0 s.sp)

/-- 0xF1 `move sp,r0` (R301). -/
def execMoveSpR0 (s : State) : Result := .next { s with sp := s.reg .r0 }

/-- 0xF2 `jmp (r0)` (R302). -/
def execJmpR0 (s : State) : Result := jumpTo (s.reg .r0) s

/-- 0xF3 `jmp addr` (R303). -/
def execJmpAddr (addr : Word) (s : State) : Result := jumpTo addr s

/-- 0xF4 `andi ps,#data8` (R304): the immediate acts on PS bits 7:0; the bits that hold no flag are dropped by SetPs, so none is drawn. -/
def execAndiPs (data : Byte) (s : State) : Result :=
  .next (s.setPs (s.ps.image s.params.psLayout 0#16 &&& (0xFF#8 ++ data)))

/-- 0xF5 `ori ps,#data8` (R305): the immediate acts on PS bits 7:0; the bits that hold no flag are dropped by SetPs, so none is drawn. -/
def execOriPs (data : Byte) (s : State) : Result :=
  .next (s.setPs (s.ps.image s.params.psLayout 0#16 ||| (0x00#8 ++ data)))

/-- 0xF6 `addi sp,#data8` (R306). -/
def execAddiSp (data : Byte) (s : State) : Result := .next { s with sp := s.sp + sext16 data }

/-- 0xF7 `sqrt` (R307). -/
def execSqrt (s : State) : Result := s.result .r0 (squareRoot (s.reg .r1))

/-- 0xF8 `mulu` (R308). -/
def execMulu (s : State) : Result := multiplyResult (productUnsigned (s.reg .r0) (s.reg .r1)) s

/-- 0xF9 `muls` (R309). -/
def execMuls (s : State) : Result := multiplyResult (productSigned (s.reg .r0) (s.reg .r1)) s

/-- 0xFA `divu` (R310): a zero divisor traps before anything is written (R346, R351). -/
def execDivu (s : State) : Result :=
  if s.reg .r1 = 0#16 then s.takeException .divideByZero
  else .next (s.divideResult (divideUnsigned (s.reg .r0) (s.reg .r1)).1 (divideUnsigned (s.reg .r0) (s.reg .r1)).2)

/-- 0xFB `divs` (R311): a zero divisor traps before anything is written (R346, R351); D selects the remainder (`DIV_D`). -/
def execDivs (s : State) : Result :=
  if s.reg .r1 = 0#16 then s.takeException .divideByZero
  else
    let q := divideSigned (s.ps.d == s.params.divD) (s.reg .r0).toInt (s.reg .r1).toInt
    let t := s.divideResult (BitVec.ofInt 16 q.1) (BitVec.ofInt 16 q.2)
    .next { t with ps := { t.ps with v := decide (q.1 = 32768) } }

/-- 0xFC `addx r0,r1` (R312). -/
def execAddx (s : State) : Result := s.sumResult .r0 (add16 (s.reg .r0) (s.reg .r1) s.ps.x)

/-- 0xFD `subx r0,r1` (R313). -/
def execSubx (s : State) : Result := s.sumResult .r0 (sub16 (s.reg .r0) (s.reg .r1) s.ps.x)

/-- 0xFE `negx r0` (R314). -/
def execNegx (s : State) : Result := s.sumResult .r0 (sub16 0#16 (s.reg .r0) s.ps.x)

/-- 0xFF `nop` (R315). -/
def execNop (s : State) : Result := noOperation s

end Sys2Proof.Machine
end

