-- ==== Sys2Proof/Machine/Dispatch.lean ====
section
/-! DEFINITION. What each instruction does: one arm per constructor, one direct call of its meaning. -/

namespace Sys2Proof.Machine

def exec (i : Instr) (s : State) : Host.Outcome State Fault Refusal :=
  match i with
  | .ldwR0IndR2 => Sys2Proof.Machine.execLdwR0IndR2 s
  | .ldwR1IndR2 => Sys2Proof.Machine.execLdwR1IndR2 s
  | .ldwR0IndR3 => Sys2Proof.Machine.execLdwR0IndR3 s
  | .ldwR1IndR3 => Sys2Proof.Machine.execLdwR1IndR3 s
  | .ldbR0IndR2 => Sys2Proof.Machine.execLdbR0IndR2 s
  | .ldbR1IndR2 => Sys2Proof.Machine.execLdbR1IndR2 s
  | .ldbR0IndR3 => Sys2Proof.Machine.execLdbR0IndR3 s
  | .ldbR1IndR3 => Sys2Proof.Machine.execLdbR1IndR3 s
  | .stwIndR2R0 => Sys2Proof.Machine.execStwIndR2R0 s
  | .stwIndR2R1 => Sys2Proof.Machine.execStwIndR2R1 s
  | .stwIndR3R0 => Sys2Proof.Machine.execStwIndR3R0 s
  | .stwIndR3R1 => Sys2Proof.Machine.execStwIndR3R1 s
  | .stbIndR2R0 => Sys2Proof.Machine.execStbIndR2R0 s
  | .stbIndR2R1 => Sys2Proof.Machine.execStbIndR2R1 s
  | .stbIndR3R0 => Sys2Proof.Machine.execStbIndR3R0 s
  | .stbIndR3R1 => Sys2Proof.Machine.execStbIndR3R1 s
  | .ldwR0IncR2 => Sys2Proof.Machine.execLdwR0IncR2 s
  | .ldwR1IncR2 => Sys2Proof.Machine.execLdwR1IncR2 s
  | .ldwR0IncR3 => Sys2Proof.Machine.execLdwR0IncR3 s
  | .ldwR1IncR3 => Sys2Proof.Machine.execLdwR1IncR3 s
  | .ldbR0IncR2 => Sys2Proof.Machine.execLdbR0IncR2 s
  | .ldbR1IncR2 => Sys2Proof.Machine.execLdbR1IncR2 s
  | .ldbR0IncR3 => Sys2Proof.Machine.execLdbR0IncR3 s
  | .ldbR1IncR3 => Sys2Proof.Machine.execLdbR1IncR3 s
  | .stwIncR2R0 => Sys2Proof.Machine.execStwIncR2R0 s
  | .stwIncR2R1 => Sys2Proof.Machine.execStwIncR2R1 s
  | .stwIncR3R0 => Sys2Proof.Machine.execStwIncR3R0 s
  | .stwIncR3R1 => Sys2Proof.Machine.execStwIncR3R1 s
  | .stbIncR2R0 => Sys2Proof.Machine.execStbIncR2R0 s
  | .stbIncR2R1 => Sys2Proof.Machine.execStbIncR2R1 s
  | .stbIncR3R0 => Sys2Proof.Machine.execStbIncR3R0 s
  | .stbIncR3R1 => Sys2Proof.Machine.execStbIncR3R1 s
  | .ldwR0Sp m => Sys2Proof.Machine.execLdwR0Sp m s
  | .ldwR1Sp m => Sys2Proof.Machine.execLdwR1Sp m s
  | .ldwR2Sp m => Sys2Proof.Machine.execLdwR2Sp m s
  | .ldwR3Sp m => Sys2Proof.Machine.execLdwR3Sp m s
  | .ldbR0Sp m => Sys2Proof.Machine.execLdbR0Sp m s
  | .ldbR1Sp m => Sys2Proof.Machine.execLdbR1Sp m s
  | .ldbR2Sp m => Sys2Proof.Machine.execLdbR2Sp m s
  | .ldbR3Sp m => Sys2Proof.Machine.execLdbR3Sp m s
  | .stwSpR0 m => Sys2Proof.Machine.execStwSpR0 m s
  | .stwSpR1 m => Sys2Proof.Machine.execStwSpR1 m s
  | .stwSpR2 m => Sys2Proof.Machine.execStwSpR2 m s
  | .stwSpR3 m => Sys2Proof.Machine.execStwSpR3 m s
  | .stbSpR0 m => Sys2Proof.Machine.execStbSpR0 m s
  | .stbSpR1 m => Sys2Proof.Machine.execStbSpR1 m s
  | .stbSpR2 m => Sys2Proof.Machine.execStbSpR2 m s
  | .stbSpR3 m => Sys2Proof.Machine.execStbSpR3 m s
  | .ldwR0Abs addr => Sys2Proof.Machine.execLdwR0Abs addr s
  | .ldwR1Abs addr => Sys2Proof.Machine.execLdwR1Abs addr s
  | .ldwR2Abs addr => Sys2Proof.Machine.execLdwR2Abs addr s
  | .ldwR3Abs addr => Sys2Proof.Machine.execLdwR3Abs addr s
  | .ldbR0Abs addr => Sys2Proof.Machine.execLdbR0Abs addr s
  | .ldbR1Abs addr => Sys2Proof.Machine.execLdbR1Abs addr s
  | .ldbR2Abs addr => Sys2Proof.Machine.execLdbR2Abs addr s
  | .ldbR3Abs addr => Sys2Proof.Machine.execLdbR3Abs addr s
  | .stwAbsR0 addr => Sys2Proof.Machine.execStwAbsR0 addr s
  | .stwAbsR1 addr => Sys2Proof.Machine.execStwAbsR1 addr s
  | .stwAbsR2 addr => Sys2Proof.Machine.execStwAbsR2 addr s
  | .stwAbsR3 addr => Sys2Proof.Machine.execStwAbsR3 addr s
  | .stbAbsR0 addr => Sys2Proof.Machine.execStbAbsR0 addr s
  | .stbAbsR1 addr => Sys2Proof.Machine.execStbAbsR1 addr s
  | .stbAbsR2 addr => Sys2Proof.Machine.execStbAbsR2 addr s
  | .stbAbsR3 addr => Sys2Proof.Machine.execStbAbsR3 addr s
  | .popR0 => Sys2Proof.Machine.execPopR0 s
  | .popR1 => Sys2Proof.Machine.execPopR1 s
  | .popR2 => Sys2Proof.Machine.execPopR2 s
  | .popR3 => Sys2Proof.Machine.execPopR3 s
  | .popPs => Sys2Proof.Machine.execPopPs s
  | .nopC5 => Sys2Proof.Machine.execNopC5 s
  | .ret => Sys2Proof.Machine.execRet s
  | .reti => Sys2Proof.Machine.execReti s
  | .pushR0 => Sys2Proof.Machine.execPushR0 s
  | .pushR1 => Sys2Proof.Machine.execPushR1 s
  | .pushR2 => Sys2Proof.Machine.execPushR2 s
  | .pushR3 => Sys2Proof.Machine.execPushR3 s
  | .pushPs => Sys2Proof.Machine.execPushPs s
  | .trap n => Sys2Proof.Machine.execTrap n s
  | .jsrR0 => Sys2Proof.Machine.execJsrR0 s
  | .jsrAddr addr => Sys2Proof.Machine.execJsrAddr addr s
  | .ldwR0Imm data => Sys2Proof.Machine.execLdwR0Imm data s
  | .ldwR1Imm data => Sys2Proof.Machine.execLdwR1Imm data s
  | .ldwR2Imm data => Sys2Proof.Machine.execLdwR2Imm data s
  | .ldwR3Imm data => Sys2Proof.Machine.execLdwR3Imm data s
  | .ldbR0Imm data => Sys2Proof.Machine.execLdbR0Imm data s
  | .ldbR1Imm data => Sys2Proof.Machine.execLdbR1Imm data s
  | .ldbR2Imm data => Sys2Proof.Machine.execLdbR2Imm data s
  | .ldbR3Imm data => Sys2Proof.Machine.execLdbR3Imm data s
  | .shiftR0Descr d => Sys2Proof.Machine.execShiftR0Descr d s
  | .shiftR1Descr d => Sys2Proof.Machine.execShiftR1Descr d s
  | .shiftR2Descr d => Sys2Proof.Machine.execShiftR2Descr d s
  | .shiftR3Descr d => Sys2Proof.Machine.execShiftR3Descr d s
  | .bitR0Descr d => Sys2Proof.Machine.execBitR0Descr d s
  | .bitR1Descr d => Sys2Proof.Machine.execBitR1Descr d s
  | .bitR2Descr d => Sys2Proof.Machine.execBitR2Descr d s
  | .bitR3Descr d => Sys2Proof.Machine.execBitR3Descr d s
  | .bcc dd => Sys2Proof.Machine.execBcc dd s
  | .bcs dd => Sys2Proof.Machine.execBcs dd s
  | .bne dd => Sys2Proof.Machine.execBne dd s
  | .beq dd => Sys2Proof.Machine.execBeq dd s
  | .bvc dd => Sys2Proof.Machine.execBvc dd s
  | .bvs dd => Sys2Proof.Machine.execBvs dd s
  | .bpl dd => Sys2Proof.Machine.execBpl dd s
  | .bmi dd => Sys2Proof.Machine.execBmi dd s
  | .bge dd => Sys2Proof.Machine.execBge dd s
  | .blt dd => Sys2Proof.Machine.execBlt dd s
  | .bgt dd => Sys2Proof.Machine.execBgt dd s
  | .ble dd => Sys2Proof.Machine.execBle dd s
  | .buc dd => Sys2Proof.Machine.execBuc dd s
  | .bus dd => Sys2Proof.Machine.execBus dd s
  | .bhi dd => Sys2Proof.Machine.execBhi dd s
  | .bls dd => Sys2Proof.Machine.execBls dd s
  | .moveR0Sp => Sys2Proof.Machine.execMoveR0Sp s
  | .moveSpR0 => Sys2Proof.Machine.execMoveSpR0 s
  | .jmpR0 => Sys2Proof.Machine.execJmpR0 s
  | .jmpAddr addr => Sys2Proof.Machine.execJmpAddr addr s
  | .andiPs data => Sys2Proof.Machine.execAndiPs data s
  | .oriPs data => Sys2Proof.Machine.execOriPs data s
  | .addiSp data => Sys2Proof.Machine.execAddiSp data s
  | .sqrt => Sys2Proof.Machine.execSqrt s
  | .mulu => Sys2Proof.Machine.execMulu s
  | .muls => Sys2Proof.Machine.execMuls s
  | .divu => Sys2Proof.Machine.execDivu s
  | .divs => Sys2Proof.Machine.execDivs s
  | .addx => Sys2Proof.Machine.execAddx s
  | .subx => Sys2Proof.Machine.execSubx s
  | .negx => Sys2Proof.Machine.execNegx s
  | .nop => Sys2Proof.Machine.execNop s
  | .lslImm a n => Sys2Proof.Machine.execLslImm a n s
  | .lsrImm a n => Sys2Proof.Machine.execLsrImm a n s
  | .lsReg a b => Sys2Proof.Machine.execLsReg a b s
  | .aslImm a n => Sys2Proof.Machine.execAslImm a n s
  | .asrImm a n => Sys2Proof.Machine.execAsrImm a n s
  | .asReg a b => Sys2Proof.Machine.execAsReg a b s
  | .rolImm a n => Sys2Proof.Machine.execRolImm a n s
  | .rorImm a n => Sys2Proof.Machine.execRorImm a n s
  | .roReg a b => Sys2Proof.Machine.execRoReg a b s
  | .roxlImm a n => Sys2Proof.Machine.execRoxlImm a n s
  | .roxrImm a n => Sys2Proof.Machine.execRoxrImm a n s
  | .roxReg a b => Sys2Proof.Machine.execRoxReg a b s
  | .bchgImm a n => Sys2Proof.Machine.execBchgImm a n s
  | .bchgReg a b => Sys2Proof.Machine.execBchgReg a b s
  | .bclrImm a n => Sys2Proof.Machine.execBclrImm a n s
  | .bclrReg a b => Sys2Proof.Machine.execBclrReg a b s
  | .bsetImm a n => Sys2Proof.Machine.execBsetImm a n s
  | .bsetReg a b => Sys2Proof.Machine.execBsetReg a b s
  | .sxtR0 => Sys2Proof.Machine.execSxtR0 s
  | .moveR1R0 => Sys2Proof.Machine.execMoveR1R0 s
  | .moveR2R0 => Sys2Proof.Machine.execMoveR2R0 s
  | .moveR3R0 => Sys2Proof.Machine.execMoveR3R0 s
  | .moveR0R1 => Sys2Proof.Machine.execMoveR0R1 s
  | .sxtR1 => Sys2Proof.Machine.execSxtR1 s
  | .moveR2R1 => Sys2Proof.Machine.execMoveR2R1 s
  | .moveR3R1 => Sys2Proof.Machine.execMoveR3R1 s
  | .moveR0R2 => Sys2Proof.Machine.execMoveR0R2 s
  | .moveR1R2 => Sys2Proof.Machine.execMoveR1R2 s
  | .sxtR2 => Sys2Proof.Machine.execSxtR2 s
  | .moveR3R2 => Sys2Proof.Machine.execMoveR3R2 s
  | .moveR0R3 => Sys2Proof.Machine.execMoveR0R3 s
  | .moveR1R3 => Sys2Proof.Machine.execMoveR1R3 s
  | .moveR2R3 => Sys2Proof.Machine.execMoveR2R3 s
  | .sxtR3 => Sys2Proof.Machine.execSxtR3 s
  | .testR0 => Sys2Proof.Machine.execTestR0 s
  | .andR1R0 => Sys2Proof.Machine.execAndR1R0 s
  | .andR2R0 => Sys2Proof.Machine.execAndR2R0 s
  | .andR3R0 => Sys2Proof.Machine.execAndR3R0 s
  | .andR0R1 => Sys2Proof.Machine.execAndR0R1 s
  | .testR1 => Sys2Proof.Machine.execTestR1 s
  | .andR2R1 => Sys2Proof.Machine.execAndR2R1 s
  | .andR3R1 => Sys2Proof.Machine.execAndR3R1 s
  | .andR0R2 => Sys2Proof.Machine.execAndR0R2 s
  | .andR1R2 => Sys2Proof.Machine.execAndR1R2 s
  | .testR2 => Sys2Proof.Machine.execTestR2 s
  | .andR3R2 => Sys2Proof.Machine.execAndR3R2 s
  | .andR0R3 => Sys2Proof.Machine.execAndR0R3 s
  | .andR1R3 => Sys2Proof.Machine.execAndR1R3 s
  | .andR2R3 => Sys2Proof.Machine.execAndR2R3 s
  | .testR3 => Sys2Proof.Machine.execTestR3 s
  | .xorR0R0 => Sys2Proof.Machine.execXorR0R0 s
  | .xorR1R0 => Sys2Proof.Machine.execXorR1R0 s
  | .xorR2R0 => Sys2Proof.Machine.execXorR2R0 s
  | .xorR3R0 => Sys2Proof.Machine.execXorR3R0 s
  | .xorR0R1 => Sys2Proof.Machine.execXorR0R1 s
  | .xorR1R1 => Sys2Proof.Machine.execXorR1R1 s
  | .xorR2R1 => Sys2Proof.Machine.execXorR2R1 s
  | .xorR3R1 => Sys2Proof.Machine.execXorR3R1 s
  | .xorR0R2 => Sys2Proof.Machine.execXorR0R2 s
  | .xorR1R2 => Sys2Proof.Machine.execXorR1R2 s
  | .xorR2R2 => Sys2Proof.Machine.execXorR2R2 s
  | .xorR3R2 => Sys2Proof.Machine.execXorR3R2 s
  | .xorR0R3 => Sys2Proof.Machine.execXorR0R3 s
  | .xorR1R3 => Sys2Proof.Machine.execXorR1R3 s
  | .xorR2R3 => Sys2Proof.Machine.execXorR2R3 s
  | .xorR3R3 => Sys2Proof.Machine.execXorR3R3 s
  | .invR0 => Sys2Proof.Machine.execInvR0 s
  | .orR1R0 => Sys2Proof.Machine.execOrR1R0 s
  | .orR2R0 => Sys2Proof.Machine.execOrR2R0 s
  | .orR3R0 => Sys2Proof.Machine.execOrR3R0 s
  | .orR0R1 => Sys2Proof.Machine.execOrR0R1 s
  | .invR1 => Sys2Proof.Machine.execInvR1 s
  | .orR2R1 => Sys2Proof.Machine.execOrR2R1 s
  | .orR3R1 => Sys2Proof.Machine.execOrR3R1 s
  | .orR0R2 => Sys2Proof.Machine.execOrR0R2 s
  | .orR1R2 => Sys2Proof.Machine.execOrR1R2 s
  | .invR2 => Sys2Proof.Machine.execInvR2 s
  | .orR3R2 => Sys2Proof.Machine.execOrR3R2 s
  | .orR0R3 => Sys2Proof.Machine.execOrR0R3 s
  | .orR1R3 => Sys2Proof.Machine.execOrR1R3 s
  | .orR2R3 => Sys2Proof.Machine.execOrR2R3 s
  | .invR3 => Sys2Proof.Machine.execInvR3 s
  | .addR0R0 => Sys2Proof.Machine.execAddR0R0 s
  | .addR1R0 => Sys2Proof.Machine.execAddR1R0 s
  | .addR2R0 => Sys2Proof.Machine.execAddR2R0 s
  | .addR3R0 => Sys2Proof.Machine.execAddR3R0 s
  | .addR0R1 => Sys2Proof.Machine.execAddR0R1 s
  | .addR1R1 => Sys2Proof.Machine.execAddR1R1 s
  | .addR2R1 => Sys2Proof.Machine.execAddR2R1 s
  | .addR3R1 => Sys2Proof.Machine.execAddR3R1 s
  | .addR0R2 => Sys2Proof.Machine.execAddR0R2 s
  | .addR1R2 => Sys2Proof.Machine.execAddR1R2 s
  | .addR2R2 => Sys2Proof.Machine.execAddR2R2 s
  | .addR3R2 => Sys2Proof.Machine.execAddR3R2 s
  | .addR0R3 => Sys2Proof.Machine.execAddR0R3 s
  | .addR1R3 => Sys2Proof.Machine.execAddR1R3 s
  | .addR2R3 => Sys2Proof.Machine.execAddR2R3 s
  | .addR3R3 => Sys2Proof.Machine.execAddR3R3 s
  | .addqR0S0 => Sys2Proof.Machine.execAddqR0S0 s
  | .addqR1S0 => Sys2Proof.Machine.execAddqR1S0 s
  | .addqR2S0 => Sys2Proof.Machine.execAddqR2S0 s
  | .addqR3S0 => Sys2Proof.Machine.execAddqR3S0 s
  | .addqR0S1 => Sys2Proof.Machine.execAddqR0S1 s
  | .addqR1S1 => Sys2Proof.Machine.execAddqR1S1 s
  | .addqR2S1 => Sys2Proof.Machine.execAddqR2S1 s
  | .addqR3S1 => Sys2Proof.Machine.execAddqR3S1 s
  | .addqR0S2 => Sys2Proof.Machine.execAddqR0S2 s
  | .addqR1S2 => Sys2Proof.Machine.execAddqR1S2 s
  | .addqR2S2 => Sys2Proof.Machine.execAddqR2S2 s
  | .addqR3S2 => Sys2Proof.Machine.execAddqR3S2 s
  | .addqR0S3 => Sys2Proof.Machine.execAddqR0S3 s
  | .addqR1S3 => Sys2Proof.Machine.execAddqR1S3 s
  | .addqR2S3 => Sys2Proof.Machine.execAddqR2S3 s
  | .addqR3S3 => Sys2Proof.Machine.execAddqR3S3 s
  | .negR0 => Sys2Proof.Machine.execNegR0 s
  | .subR1R0 => Sys2Proof.Machine.execSubR1R0 s
  | .subR2R0 => Sys2Proof.Machine.execSubR2R0 s
  | .subR3R0 => Sys2Proof.Machine.execSubR3R0 s
  | .subR0R1 => Sys2Proof.Machine.execSubR0R1 s
  | .negR1 => Sys2Proof.Machine.execNegR1 s
  | .subR2R1 => Sys2Proof.Machine.execSubR2R1 s
  | .subR3R1 => Sys2Proof.Machine.execSubR3R1 s
  | .subR0R2 => Sys2Proof.Machine.execSubR0R2 s
  | .subR1R2 => Sys2Proof.Machine.execSubR1R2 s
  | .negR2 => Sys2Proof.Machine.execNegR2 s
  | .subR3R2 => Sys2Proof.Machine.execSubR3R2 s
  | .subR0R3 => Sys2Proof.Machine.execSubR0R3 s
  | .subR1R3 => Sys2Proof.Machine.execSubR1R3 s
  | .subR2R3 => Sys2Proof.Machine.execSubR2R3 s
  | .negR3 => Sys2Proof.Machine.execNegR3 s
  | .absR0 => Sys2Proof.Machine.execAbsR0 s
  | .cmpR1R0 => Sys2Proof.Machine.execCmpR1R0 s
  | .cmpR2R0 => Sys2Proof.Machine.execCmpR2R0 s
  | .cmpR3R0 => Sys2Proof.Machine.execCmpR3R0 s
  | .cmpR0R1 => Sys2Proof.Machine.execCmpR0R1 s
  | .absR1 => Sys2Proof.Machine.execAbsR1 s
  | .cmpR2R1 => Sys2Proof.Machine.execCmpR2R1 s
  | .cmpR3R1 => Sys2Proof.Machine.execCmpR3R1 s
  | .cmpR0R2 => Sys2Proof.Machine.execCmpR0R2 s
  | .cmpR1R2 => Sys2Proof.Machine.execCmpR1R2 s
  | .absR2 => Sys2Proof.Machine.execAbsR2 s
  | .cmpR3R2 => Sys2Proof.Machine.execCmpR3R2 s
  | .cmpR0R3 => Sys2Proof.Machine.execCmpR0R3 s
  | .cmpR1R3 => Sys2Proof.Machine.execCmpR1R3 s
  | .cmpR2R3 => Sys2Proof.Machine.execCmpR2R3 s
  | .absR3 => Sys2Proof.Machine.execAbsR3 s

end Sys2Proof.Machine
end

