-- ==== Sys2Proof/Machine/Step.lean ====
section
/-! DEFINITION. One step: fetch, then the instruction's own action with `pc` at the next instruction (R23, R112). -/

namespace Sys2Proof.Machine

/-- One step of the machine. -/
def step (s : State) : Host.Outcome State Fault Refusal := s.fetchInstr (fun i s1 => exec i s1)

/-- `s` with the instruction of an opcode table word stored where the next step fetches it, at `pc`. -/
def State.withFetchWord (s : State) (nbits w : Nat) : State := s.putBytes s.pc (tableBytes nbits w)

end Sys2Proof.Machine
end

