-- ==== Sys2Proof/Machine/Run.lean ====
section
/-! DEFINITION. Runs and their end (R391). The machine has no halt instruction, so `END_PC` ends a run from outside: `step`
never reads it. -/

namespace Sys2Proof.Machine

/-- Whether a run is over in the state that `steps` steps have led to, the last of them the instruction at `last`, by the
`END_PC` of its parameters (R391). -/
def State.endsRun (s : State) (steps : Nat) (last : Option Word) : Bool :=
  match s.params.endPc with
  | .selfJump => last == some s.pc
  | .addresses ends => ends.contains s.pc
  | .stepBound n => decide (n ≤ steps)

/-- What following a run for a number of steps answers. -/
inductive RunResult
  /-- The run ended in this state, after so many steps, the one that ended it counted (R391). -/
  | ended (steps : Nat) (s : State)
  /-- A step of the run had no next state. -/
  | fault (f : Fault)
  /-- A step of the run was refused. -/
  | refused (r : Refusal)
  /-- The run had not ended in the steps it was given. -/
  | unfinished (s : State)
  deriving DecidableEq, Repr

/-- Follows a run, `steps` steps old with its last instruction at `last`, for at most `fuel` more. -/
def runFrom (steps : Nat) (last : Option Word) (fuel : Nat) (s : State) : RunResult :=
  if s.endsRun steps last then .ended steps s
  else
    match fuel with
    | 0 => .unfinished s
    | fuel + 1 =>
      match step s with
      | .next t => runFrom (steps + 1) (some s.pc) fuel t
      | .fault f => .fault f
      | .refused r => .refused r

/-- A run from its start (R391). -/
def run (fuel : Nat) (s : State) : RunResult := runFrom 0 none fuel s

end Sys2Proof.Machine
end

