-- ==== Sys2Proof/Machine/Timing.lean ====
section
/-! DEFINITION. The cycle count of each instruction (R386 to R389). It is no state and no step reads it: timing is not
normative and no register exposes it (R390). -/

namespace Sys2Proof.Machine

/-- The data bytes an access moves (R388). -/
def accessBytes : Width → Nat
  | .word => 2
  | .byte => 1

/-- The data bytes a form reads or writes, its own bytes not counted (R387, R388, R389). -/
def Form.dataBytes (s : State) : Form → Nat
  | .load w _ _ => accessBytes w
  | .store w _ _ => accessBytes w
  | .pop _ => 2
  | .popPs => 2
  | .ret => 2
  | .reti => 4
  | .push _ => 2
  | .pushPs => 2
  | .trap _ => 4
  | .jsrR0 => 2
  | .jsrAddr _ => 2
  | .divu => if s.reg .r1 = 0#16 then 4 else 0
  | .divs => if s.reg .r1 = 0#16 then 4 else 0
  | .sxt _ => 0
  | .move _ _ => 0
  | .test _ => 0
  | .and _ _ => 0
  | .xor _ _ => 0
  | .inv _ => 0
  | .or _ _ => 0
  | .add _ _ => 0
  | .addq _ _ => 0
  | .neg _ => 0
  | .sub _ _ => 0
  | .abs _ => 0
  | .cmp _ _ => 0
  | .nopC5 => 0
  | .loadImmW _ _ => 0
  | .loadImmB _ _ => 0
  | .shiftRaw _ _ => 0
  | .bitRaw _ _ => 0
  | .shift _ _ _ => 0
  | .bit _ _ _ => 0
  | .branch _ _ => 0
  | .moveR0Sp => 0
  | .moveSpR0 => 0
  | .jmpR0 => 0
  | .jmpAddr _ => 0
  | .andiPs _ => 0
  | .oriPs _ => 0
  | .addiSp _ => 0
  | .sqrt => 0
  | .mulu => 0
  | .muls => 0
  | .addx => 0
  | .subx => 0
  | .negx => 0
  | .nop => 0

/-- The cycles of an instruction in a state (R387): every byte it fetches, reads and writes. -/
def cycles (i : Instr) (s : State) : Nat := (encode i).length + Form.dataBytes s i.form

end Sys2Proof.Machine
end

