-- ==== Sys2Proof/Safety.lean ====
section
/-! DEFINITION. What claims are stated in terms of: the invariant every step keeps, the accesses a state allows. -/

namespace Sys2Proof.Machine

/-- The invariant of the machine: memory keeps its canonical form with addresses below 65536 (R60), and the seven flag
positions of the PS word are distinct (R30). -/
def State.wf (s : State) : Bool := Memory.wf s.mem && s.params.wf

/-- The `n` bytes from `a` up can all be read (R71); true of every address under the default `MEM_MAP`. -/
def State.readable (s : State) (a : Word) : Nat → Bool
  | 0 => true
  | n + 1 => s.params.canRead a && s.readable (a + 1#16) n

/-- The `n` bytes from `a` up can all be written (R71); true of every address under the default `MEM_MAP`. -/
def State.writable (s : State) (a : Word) : Nat → Bool
  | 0 => true
  | n + 1 => s.params.canWrite a && s.writable (a + 1#16) n

end Sys2Proof.Machine
end

