-- ==== Sys2Proof/Certificates/Slice0/Obligations.lean ====
section
/-! DEFINITION. The statements for the provers. Most give an instruction by its bytes, as the rule's "Encoding" does, and
say the whole next state, so that what the instruction leaves alone is said with what it writes. In `exec i s`, `s.pc`
already is the address of the instruction after `i` (R23; `Obligations.StepRunsTheDecodedInstruction`). -/

namespace Sys2Proof.Spec

open Sys2Proof.Machine

/-- The opcode or descriptor byte of a number. -/
def op (n : Nat) : Byte := BitVec.ofNat 8 n

/-- The number of a register: `A` or `B` of the rules' encodings. -/
def no : Reg → Nat
  | .r0 => 0
  | .r1 => 1
  | .r2 => 2
  | .r3 => 3

/-- `v[7:0]` and `v[15:8]`. -/
def lo (v : Word) : Byte := v.extractLsb' 0 8

/-- See `lo`. -/
def hi (v : Word) : Byte := v.extractLsb' 8 8

/-- The bytes decode to one instruction with nothing left over, and that instruction answers the next state `t`. -/
def Runs (bytes : List Byte) (s t : State) : Prop :=
  ∃ i, decode bytes = .ok (i, []) ∧ exec i s = .next t

/-- The bytes decode to one instruction, which answers a next state that is `t` but for memory, where every address
reads as `after` says. -/
def RunsStoring (bytes : List Byte) (s t : State) (after : Word → Byte) : Prop :=
  ∃ i u, decode bytes = .ok (i, []) ∧ exec i s = .next u ∧ u = { t with mem := u.mem } ∧ ∀ x, u.byte x = after x

/-- The flags with Z and N from a result, the other five as they were (R10). -/
def zn (f : Flags) (r : Word) : Flags := { f with z := decide (r = 0#16), n := r.getLsbD 15 }

/-- The state with a result in a register and Z and N from it, all else as it was. -/
def result (s : State) (a : Reg) (r : Word) : State := { s with regs := s.regs.set a r, ps := zn s.ps r }

/-- The state with a shifted value in a register, Z and N from it and C the last bit moved out (R236). -/
def shifted (s : State) (a : Reg) (r : Word) (c : Bool) : State :=
  { s with regs := s.regs.set a r, ps := { zn s.ps r with c := c } }

/-- The signed overflow of a sum (R10): the operands have one sign and the result the other. -/
def addOverflow (a b r : Word) : Bool := decide (a.getLsbD 15 = b.getLsbD 15 ∧ r.getLsbD 15 ≠ a.getLsbD 15)

/-- The signed overflow of a difference (R10). -/
def subOverflow (a b r : Word) : Bool := decide (a.getLsbD 15 ≠ b.getLsbD 15 ∧ r.getLsbD 15 ≠ a.getLsbD 15)

/-- The state after RA takes `a + b + cin` (R10, R32): Z, N, C, V, X written. -/
def summed (s : State) (d : Reg) (a b : Word) (cin : Nat) : State :=
  let r : Word := BitVec.ofNat 16 (a.toNat + b.toNat + cin)
  let c := decide (a.toNat + b.toNat + cin > 65535)
  { s with regs := s.regs.set d r, ps := { zn s.ps r with c := c, v := addOverflow a b r, x := c } }

/-- The flags after `a - b - bin` (R10, R32), X aside: Z, N, C a borrow, V. -/
def differenceFlags (f : Flags) (a b : Word) (bin : Nat) : Flags :=
  let r : Word := a - b - BitVec.ofNat 16 bin
  { zn f r with c := decide (a.toNat < b.toNat + bin), v := subOverflow a b r }

/-- The state after RA takes `a - b - bin` (R10, R32): Z, N, C, V, X written. -/
def subtracted (s : State) (d : Reg) (a b : Word) (bin : Nat) : State :=
  { s with regs := s.regs.set d (a - b - BitVec.ofNat 16 bin),
           ps := { differenceFlags s.ps a b bin with x := decide (a.toNat < b.toNat + bin) } }

/-- The bytes of `s` after a word was stored at `a` (R62): low byte at `a`, high byte at the next address. -/
def wordAt (s : State) (a w : Word) (x : Word) : Byte :=
  if x = a then lo w else if x = a + 1#16 then hi w else s.byte x

/-- The forms that store to memory whatever the state (R172 to R210). -/
def storesAlways : Form → Bool
  | .store _ _ _ => true
  | .push _ => true
  | .pushPs => true
  | .trap _ => true
  | .jsrR0 => true
  | .jsrAddr _ => true
  | _ => false

/-- The forms that take a divide-by-zero exception where R1 is zero (R346). -/
def divides : Form → Bool
  | .divu => true
  | .divs => true
  | _ => false

/-- The forms that load the flags from a word or an immediate (R201, R205, R304, R305). -/
def loadsPs : Form → Bool
  | .popPs => true
  | .reti => true
  | .andiPs _ => true
  | .oriPs _ => true
  | _ => false

/-- Whether each branch is taken (R271 to R286), in the order of the opcodes: BCC, BCS, BNE, BEQ, BVC, BVS, BPL, BMI,
BGE, BLT, BGT, BLE, BUC, BUS, BHI, BLS. -/
def conditions (f : Flags) : List Bool :=
  [!f.c, f.c, !f.z, f.z, !f.v, f.v, !f.n, f.n,
    decide (f.n = f.v), decide (f.n ≠ f.v),
    decide (f.z = false ∧ f.n = f.v), decide (f.z = true ∨ f.n ≠ f.v),
    !f.u, f.u,
    decide (f.c = false ∧ f.z = false), decide (f.c = true ∨ f.z = true)]

/-- The forms that write X with C (R36). -/
def writesX : Form → Bool
  | .add _ _ => true
  | .addq _ _ => true
  | .sub _ _ => true
  | .neg _ => true
  | .addx => true
  | .subx => true
  | .negx => true
  | _ => false

end Sys2Proof.Spec

open Sys2Proof Sys2Proof.Machine Sys2Proof.Spec

/-! ## Encoding and the step -/

/-- Every well-formed instruction, whatever its operands and the bytes after it, is what its own encoding decodes to.
All 274 constructors (`Instr.wellFormed` says which raw descriptors it leaves out). CHOICE: The default descriptor
layouts are the spec's own (D21; log 9), and which raw forms are well-formed is the model's choice (log 10). -/
def Obligations.DecodingAnEncodedInstructionGivesItBack : Prop :=
  ∀ (i : Instr) (rest : List Byte), i.wellFormed = true → decode (encode i ++ rest) = .ok (i, rest)

/-- Whatever three bytes there are, they begin with an instruction (R108), it is well-formed, and encoding it gives
the bytes it was read from: no bit of an instruction is dropped. CHOICE: The default descriptor layouts are the spec's
own (D21; log 9); R108 is derived in the spec. -/
def Obligations.EncodingADecodedInstructionGivesTheBytesBack : Prop :=
  ∀ b0 b1 b2 : Byte, ∃ i rest, decode [b0, b1, b2] = .ok (i, rest) ∧ i.wellFormed = true ∧ encode i ++ rest = [b0, b1, b2]

/-- R91: how many bytes an instruction takes, by its first byte alone. CHOICE: R91 rests on the spec's decisions D20
and D21 for TRAP and the descriptors. -/
def Obligations.LengthIsAFunctionOfTheFirstByte : Prop :=
  ∀ b0 b1 b2 : Byte, ∃ i, decode [b0, b1, b2] = .ok (i,
    if b0.toNat ≤ 0x9F then [b1, b2]
    else if b0.toNat ≤ 0xAF then [b2]
    else if b0.toNat ≤ 0xBF then []
    else if b0.toNat ≤ 0xCC ∨ b0.toNat = 0xCE then [b1, b2]
    else if b0.toNat = 0xCD then [b2]
    else if b0.toNat = 0xCF then []
    else if b0.toNat ≤ 0xD3 then []
    else if b0.toNat ≤ 0xEF then [b2]
    else if b0.toNat = 0xF3 then []
    else if b0.toNat = 0xF4 ∨ b0.toNat = 0xF5 ∨ b0.toNat = 0xF6 then [b2]
    else [b1, b2])

/-- A sanity statement: one word of each family, written out from the spec's encodings, decodes to the instruction it
stands for. CHOICE: The two descriptor words rest on D21 (log 9), the opcodes the source does not list on D17, the
operand of JSR addr on D38 (log 17). -/
def Obligations.WrittenOutWordsDecode : Prop :=
  decode [0x01] = .ok (.moveR1R0, []) ∧
  decode [0x41] = .ok (.addR1R0, []) ∧
  decode [0x5F] = .ok (.addqR3S3, []) ∧
  decode [0x92] = .ok (.ldwR0IncR3, []) ∧
  decode [0xAB, 0x02] = .ok (.stwSpR3 0x02, []) ∧
  decode [0xB0, 0x34, 0x12] = .ok (.ldwR0Abs 0x1234, []) ∧
  decode [0xCD, 0x07] = .ok (.trap 0x07, []) ∧
  decode [0xCF, 0x00, 0x50] = .ok (.jsrAddr 0x5000, []) ∧
  decode [0xD9, 0x10] = .ok (.lsrImm .r1 0x0, []) ∧
  decode [0xDD, 0xA2] = .ok (.bclrReg .r1 .r2, []) ∧
  decode [0xE7, 0xF0] = .ok (.bmi 0xF0, []) ∧
  decode [0xFB] = .ok (.divs, [])

/-- A step runs the instruction whose bytes stand at `pc` (three bytes, wrapping at 0xFFFF, of which it takes its
length; the byte after the opcode of a shift or bit instruction in the layout of the parameter, which by default is
the byte itself), with `pc` moved past it and nothing else changed (R23, R112). CHOICE: That pc already is past the
instruction is the spec's decision D37 (log 18), the descriptor layout a parameter (D21; log 9). -/
def Obligations.StepRunsTheDecodedInstruction : Prop :=
  ∀ (s : State) (i : Instr) (rest : List Byte),
    decode [s.byte s.pc, s.params.descriptor (s.byte s.pc) (s.byte (s.pc + 1#16)), s.byte (s.pc + 2#16)] = .ok (i, rest) →
    s.readable s.pc (encode i).length = true →
    step s = exec i { s with pc := s.pc + BitVec.ofNat 16 (encode i).length }

/-! ## Reset and the whole machine -/

/-- R37, R380: after reset `pc` is `VECTOR_BASE`; with it the parameters are the defaults of R4, and no byte of memory
is listed. (What registers and flags hold is the model's choice, log 12, and stated nowhere.) CHOICE: Which base and
that the other parameters stand at their defaults is the model's choice (logs 1 to 9, 24), and so is the empty memory
(log 13); R380 rests on D29, R391 on D35. -/
def Obligations.ResetStartsAtTheVectorBaseWithTheDefaultParameters : Prop :=
  State.reset.pc = State.reset.params.vectorBase.address ∧
  State.reset.params.vectorBase.address = 0x0000#16 ∧
  State.reset.params.memMap = [] ∧
  State.reset.params.psLayout = { n := 1, z := 2, v := 3, x := 4, c := 5, d := 6, u := 7 } ∧
  State.reset.params.addqConst = { sel1 := .plus1, sel2 := .minus2, sel3 := .minus1 } ∧
  State.reset.params.shiftDescr = [] ∧
  State.reset.params.bitDescr = [] ∧
  State.reset.params.branchBias = 0#16 ∧
  State.reset.params.mulDivDest = { prodLow := .r2, prodHigh := .r3, quotient := .r2, remainder := .r3 } ∧
  State.reset.params.divD = false ∧
  State.reset.params.roxLink = .c ∧
  State.reset.params.endPc = .selfJump ∧
  State.reset.mem = []

/-- The state after reset meets the invariant. CHOICE: The canonical form of memory and the empty memory at reset are
the model's (log 13); the layout is log 3. -/
def Obligations.ResetMeetsTheInvariant : Prop := State.reset.wf = true

/-- Every step keeps the invariant: memory stays canonical, with addresses below 65536, and the flag positions stay
distinct. CHOICE: The canonical form of memory is the model's (log 13). -/
def Obligations.EveryStepKeepsTheInvariant : Prop :=
  ∀ s t : State, s.wf = true → step s = .next t → t.wf = true

/-- R27: no rule writes H; R341 and R29: no instruction changes a parameter. CHOICE: That no rule touches H is the
spec's decision D28 (log 21). -/
def Obligations.NoStepWritesHOrAParameter : Prop :=
  ∀ s t : State, step s = .next t → t.h = s.h ∧ t.params = s.params

/-- R27: no rule reads H. A step of a machine that differs only in H answers the same, but for H. CHOICE: That no rule
touches H is the spec's decision D28 (log 21). -/
def Obligations.NoStepReadsH : Prop :=
  ∀ (s : State) (v : Word),
    step { s with h := v } =
      match step s with
      | .next t => .next { t with h := v }
      | .fault r => .fault r
      | .refused r => .refused r

/-- R34, R35: U and D are written only by POP PS, RETI, ANDI PS and ORI PS. CHOICE: R34 and R35 rest on the spec's
decisions D33 and D26. -/
def Obligations.FlagsUAndDChangeOnlyWhenPsIsLoaded : Prop :=
  ∀ (i : Instr) (s t : State), loadsPs i.form = false → exec i s = .next t → t.ps.u = s.ps.u ∧ t.ps.d = s.ps.d

/-- R36: X is written with the value of C by ADD, ADDQ, SUB, NEG, ADDX, SUBX and NEGX, and by no other instruction but
those that load PS (with `ROX_LINK` at its default). CHOICE: R36 rests on the spec's decision D13; the default of
ROX_LINK is log 8. -/
def Obligations.FlagXFollowsTheAddFamilyOnly : Prop :=
  ∀ (i : Instr) (s t : State), s.params.roxLink = .c → exec i s = .next t →
    (writesX i.form = true → t.ps.x = t.ps.c) ∧
    (writesX i.form = false → loadsPs i.form = false → t.ps.x = s.ps.x)

/-- Every byte of memory reads as before after an instruction that stores nothing: all but the stores, the pushes, the
calls, TRAP, and the divisions with a zero divisor. CHOICE: That an exception entry stores PC and PS is the spec's
decision D3 (log 17). -/
def Obligations.OnlyStoringInstructionsChangeMemory : Prop :=
  ∀ (i : Instr) (s t : State), storesAlways i.form = false → (divides i.form = true → s.regs.r1 ≠ 0#16) →
    exec i s = .next t → ∀ x, t.byte x = s.byte x

/-- R21, R108: under the default `MEM_MAP` every instruction of the opcode table answers a next state, in every state,
but for a shift or bit instruction with a reserved descriptor. All 274 constructors. CHOICE: The default memory map is
the spec's decision D9 (log 2); the reserved descriptors D30 (log 16). -/
def Obligations.EveryInstructionCompletes : Prop :=
  ∀ (i : Instr) (s : State), s.params.memMap = [] →
    (∀ a d, i.form = .shiftRaw a d → reservedShiftDescr d = false) →
    (∀ a d, i.form = .bitRaw a d → reservedBitDescr d = false) →
    ∃ t, exec i s = .next t

/-! ## Register move and ALU: 0x00 to 0x7F -/

/-- R131, MOVE RA, RB with A ≠ B: moveR1R0 to moveR2R3, twelve constructors; R130, SXT RA: sxtR0 to sxtR3, the low
byte as a signed number in 16 bits. CHOICE: The flags rest on the spec's decisions D12 and D41. -/
def Obligations.MoveCopiesAndSxtSignExtends : Prop :=
  ∀ (a b : Reg) (s : State),
    (a ≠ b → Runs [op (0x00 + 4 * no b + no a)] s (result s a (s.regs.get b))) ∧
    Runs [op (0x00 + 5 * no a)] s (result s a (BitVec.ofInt 16 (lo (s.regs.get a)).toInt))

/-- R132, TEST RA: testR0 to testR3. -/
def Obligations.TestSetsZAndNOnly : Prop :=
  ∀ (a : Reg) (s : State), Runs [op (0x10 + 5 * no a)] s { s with ps := zn s.ps (s.regs.get a) }

/-- R133, R134, R136, R135: AND RA, RB and OR RA, RB with A ≠ B (twelve constructors each), XOR RA, RB with any A and
B (xorR0R0 to xorR3R3), INV RA (invR0 to invR3). CHOICE: The flags rest on the spec's decisions D12 and D41. -/
def Obligations.LogicInstructionsCombineRegisters : Prop :=
  ∀ (a b : Reg) (s : State),
    (a ≠ b → Runs [op (0x10 + 4 * no b + no a)] s (result s a (s.regs.get a &&& s.regs.get b))) ∧
    Runs [op (0x20 + 4 * no b + no a)] s (result s a (s.regs.get a ^^^ s.regs.get b)) ∧
    (a ≠ b → Runs [op (0x30 + 4 * no b + no a)] s (result s a (s.regs.get a ||| s.regs.get b))) ∧
    Runs [op (0x30 + 5 * no a)] s (result s a (~~~(s.regs.get a)))

/-- R138, ADD RA, RB with any A and B: addR0R0 to addR3R3. CHOICE: The flags rest on the spec's decisions D12 and D13.
-/
def Obligations.AddSumsRegisters : Prop :=
  ∀ (a b : Reg) (s : State),
    Runs [op (0x40 + 4 * no b + no a)] s (summed s a (s.regs.get a) (s.regs.get b) 0)

/-- R141, ADDQ RA: addqR0S0 to addqR3S3. Selector 0 adds +2; the others add the constant `ADDQ_CONST` gives them, as
its 16-bit pattern. CHOICE: The constants of selectors 1 to 3 are a parameter (D42, D16; log 4). -/
def Obligations.AddqAddsItsConstant : Prop :=
  ∀ (a : Reg) (s : State),
    Runs [op (0x50 + no a)] s (summed s a (s.regs.get a) 0x0002#16 0) ∧
    Runs [op (0x54 + no a)] s (summed s a (s.regs.get a) s.params.addqConst.sel1.word 0) ∧
    Runs [op (0x58 + no a)] s (summed s a (s.regs.get a) s.params.addqConst.sel2.word 0) ∧
    Runs [op (0x5C + no a)] s (summed s a (s.regs.get a) s.params.addqConst.sel3.word 0)

/-- R142, SUB RA, RB with A ≠ B (twelve constructors), and R143, NEG RA (negR0 to negR3). CHOICE: The flags rest on
the spec's decisions D12, D13 and D41, the order of the operands on D34. -/
def Obligations.SubAndNegSubtract : Prop :=
  ∀ (a b : Reg) (s : State),
    (a ≠ b → Runs [op (0x60 + 4 * no b + no a)] s (subtracted s a (s.regs.get a) (s.regs.get b) 0)) ∧
    Runs [op (0x60 + 5 * no a)] s (subtracted s a 0#16 (s.regs.get a) 0)

/-- R144, ABS RA: absR0 to absR3. The absolute value as a number; V for 0x8000 only; C and X as they were. CHOICE: The
result for 0x8000 and the flags are the spec's decisions D12 and D41. -/
def Obligations.AbsTakesTheAbsoluteValue : Prop :=
  ∀ (a : Reg) (s : State),
    let r : Word := BitVec.ofNat 16 (s.regs.get a).toInt.natAbs
    Runs [op (0x70 + 5 * no a)] s
      { s with regs := s.regs.set a r, ps := { zn s.ps r with v := decide (s.regs.get a = 0x8000#16) } }

/-- R145, CMP RA, RB with A ≠ B: twelve constructors. No register is written and X is kept. CHOICE: The flags rest on
the spec's decisions D12 and D13, the order of the operands on D34. -/
def Obligations.CmpComparesRegisters : Prop :=
  ∀ (a b : Reg) (s : State), a ≠ b →
    Runs [op (0x70 + 4 * no b + no a)] s { s with ps := differenceFlags s.ps (s.regs.get a) (s.regs.get b) 0 }

/-- R271 to R286 after R145 (R287): what each condition says after CMP RA, RB. CHOICE: R287 is derived in the spec;
the conditions rest on its decision D14. -/
def Obligations.ConditionsAfterCmpSayWhatTheirNamesSay : Prop :=
  ∀ (i : Instr) (a b : Reg) (s t : State), i.form = .cmp a b → exec i s = .next t →
    (Cond.holds t.ps .eq = true ↔ s.regs.get a = s.regs.get b) ∧
    (Cond.holds t.ps .ne = true ↔ s.regs.get a ≠ s.regs.get b) ∧
    (Cond.holds t.ps .cc = true ↔ (s.regs.get b).toNat ≤ (s.regs.get a).toNat) ∧
    (Cond.holds t.ps .cs = true ↔ (s.regs.get a).toNat < (s.regs.get b).toNat) ∧
    (Cond.holds t.ps .hi = true ↔ (s.regs.get b).toNat < (s.regs.get a).toNat) ∧
    (Cond.holds t.ps .ls = true ↔ (s.regs.get a).toNat ≤ (s.regs.get b).toNat) ∧
    (Cond.holds t.ps .ge = true ↔ (s.regs.get b).toInt ≤ (s.regs.get a).toInt) ∧
    (Cond.holds t.ps .lt = true ↔ (s.regs.get a).toInt < (s.regs.get b).toInt) ∧
    (Cond.holds t.ps .gt = true ↔ (s.regs.get b).toInt < (s.regs.get a).toInt) ∧
    (Cond.holds t.ps .le = true ↔ (s.regs.get a).toInt ≤ (s.regs.get b).toInt)

/-! ## Loads and stores: 0x80 to 0xBF -/

/-- R170, R171, LD.W and LD.B RD, (RI): ldwR0IndR2, ldwR1IndR2, ldwR0IndR3, ldwR1IndR3 and the four ldb. Here `i` is 0
for R2 and 1 for R3, `d` 0 for R0 and 1 for R1. CHOICE: The flags rest on the spec's decision D12. -/
def Obligations.LoadIndirectReadsMemory : Prop :=
  ∀ (s : State) (i d : Reg × Nat), i = (.r2, 0) ∨ i = (.r3, 1) → d = (.r0, 0) ∨ d = (.r1, 1) →
    (s.readable (s.regs.get i.1) 2 = true →
      Runs [op (0x80 + 2 * i.2 + d.2)] s
        (result s d.1 (s.byte (s.regs.get i.1 + 1#16) ++ s.byte (s.regs.get i.1)))) ∧
    (s.readable (s.regs.get i.1) 1 = true →
      Runs [op (0x84 + 2 * i.2 + d.2)] s (result s d.1 ((s.byte (s.regs.get i.1)).setWidth 16)))

/-- R174, R175, R189, LD.W and LD.B RD, (RI++): the four ldw..Inc and the four ldb..Inc. CHOICE: The increment and the
flags rest on the spec's decisions D18 and D12. -/
def Obligations.LoadPostIncrementReadsThenIncrements : Prop :=
  ∀ (s : State) (i d : Reg × Nat), i = (.r2, 0) ∨ i = (.r3, 1) → d = (.r0, 0) ∨ d = (.r1, 1) →
    (s.readable (s.regs.get i.1) 2 = true →
      let v := s.byte (s.regs.get i.1 + 1#16) ++ s.byte (s.regs.get i.1)
      Runs [op (0x90 + 2 * i.2 + d.2)] s
        { s with regs := (s.regs.set d.1 v).set i.1 (s.regs.get i.1 + 2#16), ps := zn s.ps v }) ∧
    (s.readable (s.regs.get i.1) 1 = true →
      let v : Word := (s.byte (s.regs.get i.1)).setWidth 16
      Runs [op (0x94 + 2 * i.2 + d.2)] s
        { s with regs := (s.regs.set d.1 v).set i.1 (s.regs.get i.1 + 1#16), ps := zn s.ps v })

/-- R178, R179, LD.W and LD.B RD, (SP+m), where `m` is unsigned: ldwR0Sp to ldwR3Sp, ldbR0Sp to ldbR3Sp; R182, R183,
LD.W and LD.B RD, addr, where the address follows low byte first: ldwR0Abs to ldwR3Abs, ldbR0Abs to ldbR3Abs. CHOICE:
The flags rest on the spec's decision D12. -/
def Obligations.LoadStackRelativeAndAbsoluteReadMemory : Prop :=
  ∀ (s : State) (d : Reg) (m : Byte) (addr : Word),
    let ea := s.sp + BitVec.ofNat 16 m.toNat
    (s.readable ea 2 = true → Runs [op (0xA0 + no d), m] s (result s d (s.byte (ea + 1#16) ++ s.byte ea))) ∧
    (s.readable ea 1 = true → Runs [op (0xA4 + no d), m] s (result s d ((s.byte ea).setWidth 16))) ∧
    (s.readable addr 2 = true →
      Runs [op (0xB0 + no d), lo addr, hi addr] s (result s d (s.byte (addr + 1#16) ++ s.byte addr))) ∧
    (s.readable addr 1 = true →
      Runs [op (0xB4 + no d), lo addr, hi addr] s (result s d ((s.byte addr).setWidth 16)))

/-- R172, R173, ST.W and ST.B (RI), RD: the four stwInd and the four stbInd. CHOICE: That a store writes no flag is
the spec's decision D12, the byte store D19. -/
def Obligations.StoreIndirectWritesItsBytesOnly : Prop :=
  ∀ (s : State) (i d : Reg × Nat), s.wf = true → i = (.r2, 0) ∨ i = (.r3, 1) → d = (.r0, 0) ∨ d = (.r1, 1) →
    (s.writable (s.regs.get i.1) 2 = true →
      RunsStoring [op (0x88 + 2 * i.2 + d.2)] s s (wordAt s (s.regs.get i.1) (s.regs.get d.1))) ∧
    (s.writable (s.regs.get i.1) 1 = true →
      RunsStoring [op (0x8C + 2 * i.2 + d.2)] s s
        (fun x => if x = s.regs.get i.1 then lo (s.regs.get d.1) else s.byte x))

/-- R176, R177, R189, ST.W and ST.B (RI++), RD: the four stwInc and the four stbInc. CHOICE: The increment and the
flags rest on the spec's decisions D18 and D12. -/
def Obligations.StorePostIncrementWritesThenIncrements : Prop :=
  ∀ (s : State) (i d : Reg × Nat), s.wf = true → i = (.r2, 0) ∨ i = (.r3, 1) → d = (.r0, 0) ∨ d = (.r1, 1) →
    (s.writable (s.regs.get i.1) 2 = true →
      RunsStoring [op (0x98 + 2 * i.2 + d.2)] s { s with regs := s.regs.set i.1 (s.regs.get i.1 + 2#16) }
        (wordAt s (s.regs.get i.1) (s.regs.get d.1))) ∧
    (s.writable (s.regs.get i.1) 1 = true →
      RunsStoring [op (0x9C + 2 * i.2 + d.2)] s { s with regs := s.regs.set i.1 (s.regs.get i.1 + 1#16) }
        (fun x => if x = s.regs.get i.1 then lo (s.regs.get d.1) else s.byte x))

/-- R180, R181, ST.W and ST.B (SP+m), RD: stwSpR0 to stwSpR3, stbSpR0 to stbSpR3; R184, R185, ST.W and ST.B addr, RD:
stwAbsR0 to stwAbsR3, stbAbsR0 to stbAbsR3. CHOICE: That a store writes no flag is the spec's decision D12. -/
def Obligations.StoreStackRelativeAndAbsoluteWriteTheirBytesOnly : Prop :=
  ∀ (s : State) (d : Reg) (m : Byte) (addr : Word), s.wf = true →
    let ea := s.sp + BitVec.ofNat 16 m.toNat
    (s.writable ea 2 = true → RunsStoring [op (0xA8 + no d), m] s s (wordAt s ea (s.regs.get d))) ∧
    (s.writable ea 1 = true →
      RunsStoring [op (0xAC + no d), m] s s (fun x => if x = ea then lo (s.regs.get d) else s.byte x)) ∧
    (s.writable addr 2 = true →
      RunsStoring [op (0xB8 + no d), lo addr, hi addr] s s (wordAt s addr (s.regs.get d))) ∧
    (s.writable addr 1 = true →
      RunsStoring [op (0xBC + no d), lo addr, hi addr] s s (fun x => if x = addr then lo (s.regs.get d) else s.byte x))

/-! ## Stack, subroutine and trap: 0xC0 to 0xCF -/

/-- R200, POP RA: popR0 to popR3; R203, RET: ret. No flag is written. CHOICE: The stack convention is the spec's
decision D6, the flags D12. -/
def Obligations.PopAndRetReadTheTopWord : Prop :=
  ∀ (s : State) (a : Reg), s.readable s.sp 2 = true →
    let w : Word := s.byte (s.sp + 1#16) ++ s.byte s.sp
    Runs [op (0xC0 + no a)] s { s with regs := s.regs.set a w, sp := s.sp + 2#16 } ∧
    Runs [0xC6] s { s with pc := w, sp := s.sp + 2#16 }

/-- R201, POP PS: popPs. Each flag from its position of `PS_LAYOUT`; the other bits of the word are ignored. CHOICE:
Loading all seven is the spec's decision D43, the positions are a parameter (D10; log 3). -/
def Obligations.PopPsLoadsTheSevenFlags : Prop :=
  ∀ s : State, s.readable s.sp 2 = true →
    let w : Word := s.byte (s.sp + 1#16) ++ s.byte s.sp
    let l := s.params.psLayout
    Runs [0xC4] s
      { s with
        sp := s.sp + 2#16
        ps := { z := w.getLsbD l.z.val, n := w.getLsbD l.n.val, c := w.getLsbD l.c.val, v := w.getLsbD l.v.val,
                u := w.getLsbD l.u.val, x := w.getLsbD l.x.val, d := w.getLsbD l.d.val } }

/-- R205, RETI: reti. PS from the first word popped, PC from the second. CHOICE: The order is the spec's decision D5.
-/
def Obligations.RetiPopsPsThenPc : Prop :=
  ∀ s : State, s.readable s.sp 4 = true →
    let w : Word := s.byte (s.sp + 1#16) ++ s.byte s.sp
    let l := s.params.psLayout
    Runs [0xC7] s
      { s with
        pc := s.byte (s.sp + 3#16) ++ s.byte (s.sp + 2#16)
        sp := s.sp + 4#16
        ps := { z := w.getLsbD l.z.val, n := w.getLsbD l.n.val, c := w.getLsbD l.c.val, v := w.getLsbD l.v.val,
                u := w.getLsbD l.u.val, x := w.getLsbD l.x.val, d := w.getLsbD l.d.val } }

/-- R206, PUSH RA: pushR0 to pushR3. CHOICE: The stack convention is the spec's decision D6. -/
def Obligations.PushStoresARegisterBelowSp : Prop :=
  ∀ (s : State) (a : Reg), s.wf = true → s.writable (s.sp - 2#16) 2 = true →
    RunsStoring [op (0xC8 + no a)] s { s with sp := s.sp - 2#16 } (wordAt s (s.sp - 2#16) (s.regs.get a))

/-- R207, PUSH PS: pushPs. The word pushed is the PS word of this reading; the next reading draws afresh. CHOICE: The
stack convention is the spec's decision D6; the counter of free values is the model's (log 14). -/
def Obligations.PushPsStoresThePsWord : Prop :=
  ∀ s : State, s.wf = true → s.writable (s.sp - 2#16) 2 = true →
    RunsStoring [0xCC] s { s with sp := s.sp - 2#16, psDraws := s.psDraws + 1 } (wordAt s (s.sp - 2#16) s.psWord)

/-- R31, R30: with distinct positions the PS word holds each flag at its position, whatever the free bits are, and
loading it gives the flags back. CHOICE: The word is the spec's decision D10; the bits that hold no flag are free (log
14). -/
def Obligations.ThePsWordHoldsEachFlagAtItsPosition : Prop :=
  ∀ s : State, s.params.psLayout.distinct = true →
    s.psWord.getLsbD s.params.psLayout.z.val = s.ps.z ∧
    s.psWord.getLsbD s.params.psLayout.n.val = s.ps.n ∧
    s.psWord.getLsbD s.params.psLayout.c.val = s.ps.c ∧
    s.psWord.getLsbD s.params.psLayout.v.val = s.ps.v ∧
    s.psWord.getLsbD s.params.psLayout.u.val = s.ps.u ∧
    s.psWord.getLsbD s.params.psLayout.x.val = s.ps.x ∧
    s.psWord.getLsbD s.params.psLayout.d.val = s.ps.d ∧
    (s.setPs s.psWord).ps = s.ps

/-- R208, R344, R347, TRAP #n: trap. PC is pushed, then the PS word; `pc` goes to the slot at base + 0xC; `n` is not
used; flags and registers are as they were. CHOICE: What is saved and where control goes are the spec's decisions D2,
D3 and D4 (log 17). -/
def Obligations.TrapPushesPcAndPsAndGoesToItsVector : Prop :=
  ∀ (s : State) (n : Byte), s.wf = true → s.writable (s.sp - 4#16) 4 = true →
    RunsStoring [0xCD, n] s
      { s with sp := s.sp - 4#16, psDraws := s.psDraws + 1, pc := s.params.vectorBase.address + 0xC#16 }
      (fun x =>
        if x = s.sp - 4#16 then lo s.psWord
        else if x = s.sp - 3#16 then hi s.psWord
        else if x = s.sp - 2#16 then lo s.pc
        else if x = s.sp - 1#16 then hi s.pc
        else s.byte x)

/-- R350, R344: RETI after a trap restores PC, SP and the seven flags, and changes no register and no byte the trap
left. CHOICE: The entry and the return are the spec's decisions D3 and D5 (log 17). -/
def Obligations.RetiUndoesATrap : Prop :=
  ∀ (s t : State) (n : Byte), s.wf = true → exec (.trap n) s = .next t →
    ∃ u, exec .reti t = .next u ∧ u.pc = s.pc ∧ u.sp = s.sp ∧ u.ps = s.ps ∧ u.regs = s.regs ∧ ∀ x, u.byte x = t.byte x

/-- R209, R210, JSR (R0) and JSR addr: jsrR0, jsrAddr. The address of the next instruction is pushed. CHOICE: The
return address is the spec's decision D36, the stack D6, the low byte first of the operand of JSR addr D38 (log 17).
-/
def Obligations.JsrPushesTheReturnAddress : Prop :=
  ∀ (s : State) (addr : Word), s.wf = true → s.writable (s.sp - 2#16) 2 = true →
    RunsStoring [0xCE] s { s with sp := s.sp - 2#16, pc := s.regs.get .r0 } (wordAt s (s.sp - 2#16) s.pc) ∧
    RunsStoring [0xCF, lo addr, hi addr] s { s with sp := s.sp - 2#16, pc := addr } (wordAt s (s.sp - 2#16) s.pc)

/-- R203, R209, R210: RET after a JSR returns to the instruction after it, with the stack pointer as it was. CHOICE:
The return address is the spec's decision D36, the stack D6. -/
def Obligations.RetReturnsFromJsr : Prop :=
  ∀ (s t : State) (addr : Word), s.wf = true → exec .jsrR0 s = .next t ∨ exec (.jsrAddr addr) s = .next t →
    ∃ u, exec .ret t = .next u ∧ u.pc = s.pc ∧ u.sp = s.sp ∧ u.ps = s.ps ∧ u.regs = s.regs

/-- R202, R315, the two NOPs: nopC5, nop. `pc` advances by 1, and nothing else changes. -/
def Obligations.NopsOnlyAdvancePc : Prop :=
  ∀ s : State, Runs [0xC5] s s ∧ Runs [0xFF] s s ∧
    (s.readable s.pc 1 = true → s.byte s.pc = 0xC5 ∨ s.byte s.pc = 0xFF → step s = .next { s with pc := s.pc + 1#16 })

/-! ## Immediate loads, shifts, bit instructions: 0xD0 to 0xDF -/

/-- R230, R231, LD.W RA, #data and LD.B RA, #data: ldwR0Imm to ldwR3Imm, ldbR0Imm to ldbR3Imm. CHOICE: The flags and
the zero extension are the spec's decisions D12 and D19, the low byte first of the word D38 (log 17). -/
def Obligations.LoadImmediateLoadsItsData : Prop :=
  ∀ (s : State) (a : Reg) (v : Word) (b : Byte),
    Runs [op (0xD0 + no a), lo v, hi v] s (result s a v) ∧ Runs [op (0xD4 + no a), b] s (result s a (b.setWidth 16))

/-- R240, R238, LSL and ASL by 1 to 15 places, immediate and by a register: lslImm, lsReg, aslImm, asReg. CHOICE: The
signed count and the flags are the spec's decision D22, the default descriptor layout D21 (log 9). -/
def Obligations.LeftShiftsMultiply : Prop :=
  ∀ (s : State) (a b : Reg) (n : Nat), 1 ≤ n → n ≤ 15 →
    let t := shifted s a (BitVec.ofNat 16 ((s.regs.get a).toNat * 2 ^ n)) ((s.regs.get a).getLsbD (16 - n))
    Runs [op (0xD8 + no a), op (0x00 + n)] s t ∧
    Runs [op (0xD8 + no a), op (0x40 + n)] s t ∧
    ((s.regs.get b).toNat % 32 = n →
      Runs [op (0xD8 + no a), op (0x20 + no b)] s t ∧ Runs [op (0xD8 + no a), op (0x60 + no b)] s t)

/-- R241, R239, LSR and ASR by 1 to 16 places, immediate and by a register: lsrImm, lsReg, asrImm, asReg. The quotient
is rounded down. CHOICE: The signed count and the flags are the spec's decision D22, the default descriptor layout D21
(log 9). -/
def Obligations.RightShiftsDivide : Prop :=
  ∀ (s : State) (a b : Reg) (n : Nat), 1 ≤ n → n ≤ 16 →
    let l := shifted s a (BitVec.ofNat 16 ((s.regs.get a).toNat / 2 ^ n)) ((s.regs.get a).getLsbD (n - 1))
    let r := shifted s a (BitVec.ofInt 16 ((s.regs.get a).toInt.fdiv (2 ^ n))) ((s.regs.get a).getLsbD (n - 1))
    Runs [op (0xD8 + no a), op (0x00 + (32 - n))] s l ∧
    Runs [op (0xD8 + no a), op (0x40 + (32 - n))] s r ∧
    ((s.regs.get b).toNat % 32 = 32 - n →
      Runs [op (0xD8 + no a), op (0x20 + no b)] s l ∧ Runs [op (0xD8 + no a), op (0x60 + no b)] s r)

/-- R242, R243, ROL by 1 to 15 places and ROR by 1 to 16, immediate and by a register: rolImm, rorImm, roReg. CHOICE:
The signed count and the flags are the spec's decision D22, the default descriptor layout D21 (log 9). -/
def Obligations.RotatesRotateSixteenBits : Prop :=
  ∀ (s : State) (a b : Reg) (n : Nat), 1 ≤ n → n ≤ 16 →
    let l := (s.regs.get a).rotateLeft n
    let r := (s.regs.get a).rotateRight n
    (n ≤ 15 → Runs [op (0xD8 + no a), op (0x80 + n)] s (shifted s a l (l.getLsbD 0))) ∧
    Runs [op (0xD8 + no a), op (0x80 + (32 - n))] s (shifted s a r (r.getLsbD 15)) ∧
    (n ≤ 15 → (s.regs.get b).toNat % 32 = n →
      Runs [op (0xD8 + no a), op (0xA0 + no b)] s (shifted s a l (l.getLsbD 0))) ∧
    ((s.regs.get b).toNat % 32 = 32 - n →
      Runs [op (0xD8 + no a), op (0xA0 + no b)] s (shifted s a r (r.getLsbD 15)))

/-- R244, R245, ROXL by 1 to 15 places and ROXR by 1 to 16, immediate and by a register, with `ROX_LINK` at its
default: roxlImm, roxrImm, roxReg. The 17 bits that rotate are C above the register. CHOICE: The flag they rotate
through is a parameter (D22; log 8), the default descriptor layout D21 (log 9). -/
def Obligations.RotatesThroughCarryRotateSeventeenBits : Prop :=
  ∀ (s : State) (a b : Reg) (n : Nat), s.params.roxLink = .c → 1 ≤ n → n ≤ 16 →
    let l : BitVec 17 := (BitVec.cons s.ps.c (s.regs.get a)).rotateLeft n
    let r : BitVec 17 := (BitVec.cons s.ps.c (s.regs.get a)).rotateRight n
    (n ≤ 15 → Runs [op (0xD8 + no a), op (0xC0 + n)] s (shifted s a (l.setWidth 16) (l.getLsbD 16))) ∧
    Runs [op (0xD8 + no a), op (0xC0 + (32 - n))] s (shifted s a (r.setWidth 16) (r.getLsbD 16)) ∧
    (n ≤ 15 → (s.regs.get b).toNat % 32 = n →
      Runs [op (0xD8 + no a), op (0xE0 + no b)] s (shifted s a (l.setWidth 16) (l.getLsbD 16))) ∧
    ((s.regs.get b).toNat % 32 = 32 - n →
      Runs [op (0xD8 + no a), op (0xE0 + no b)] s (shifted s a (r.setWidth 16) (r.getLsbD 16)))

/-- R237, a zero count, immediate (lslImm, aslImm, rolImm, roxlImm with n = 0) or from a register whose low five bits
are 0 (lsReg, asReg, roReg, roxReg): the register and C are unchanged, Z and N report the register. CHOICE: The zero
count is the spec's decision D22. -/
def Obligations.AZeroCountOnlyReports : Prop :=
  ∀ (s : State) (a b : Reg) (k : Nat), k = 0x00 ∨ k = 0x40 ∨ k = 0x80 ∨ k = 0xC0 →
    let t := { s with ps := zn s.ps (s.regs.get a) }
    Runs [op (0xD8 + no a), op k] s t ∧
    ((s.regs.get b).toNat % 32 = 0 → Runs [op (0xD8 + no a), op (k + 0x20 + no b)] s t)

/-- R247, R248, R249, BSET, BCLR and BCHG, by number and by a register: bsetImm, bsetReg, bclrImm, bclrReg, bchgImm,
bchgReg. CHOICE: The flags are the spec's decision D24, the default descriptor layout D21 (log 9). -/
def Obligations.BitInstructionsChangeOneBit : Prop :=
  ∀ (s : State) (a b : Reg) (n : Nat), n ≤ 15 →
    let v := s.regs.get a
    let bit : Word := BitVec.ofNat 16 (2 ^ n)
    Runs [op (0xDC + no a), op (0xC0 + n)] s (result s a (v ||| bit)) ∧
    Runs [op (0xDC + no a), op (0x80 + n)] s (result s a (v &&& ~~~bit)) ∧
    Runs [op (0xDC + no a), op (0x40 + n)] s (result s a (v ^^^ bit)) ∧
    ((s.regs.get b).toNat % 16 = n →
      Runs [op (0xDC + no a), op (0xE0 + no b)] s (result s a (v ||| bit)) ∧
      Runs [op (0xDC + no a), op (0xA0 + no b)] s (result s a (v &&& ~~~bit)) ∧
      Runs [op (0xDC + no a), op (0x60 + no b)] s (result s a (v ^^^ bit)))

/-- R110: a shift or bit instruction with a reserved descriptor is refused, by name. CHOICE: The refusal is the spec's
decision D30 (log 16). -/
def Obligations.ReservedDescriptorsAreRefused : Prop :=
  ∀ (s : State) (a : Reg) (d : Byte),
    (d.getLsbD 5 = true ∧ d.extractLsb' 2 3 ≠ 0#3 →
      ∃ i, decode [op (0xD8 + no a), d] = .ok (i, []) ∧ exec i s = .refused .reservedShiftDescriptor) ∧
    (d.extractLsb' 6 2 = 0#2 ∨ (d.getLsbD 5 = false ∧ d.getLsbD 4 = true) ∨ (d.getLsbD 5 = true ∧ d.extractLsb' 2 3 ≠ 0#3) →
      ∃ i, decode [op (0xDC + no a), d] = .ok (i, []) ∧ exec i s = .refused .reservedBitDescriptor)

/-- R232, R233: the eight first-byte rows shiftR0Descr to shiftR3Descr and bitR0Descr to bitR3Descr, with a descriptor
that is not reserved, do what the instruction their bytes decode to does. CHOICE: That both rows are constructors is
the model's choice (log 10). -/
def Obligations.RawDescriptorFormsDoWhatTheirBytesDecodeTo : Prop :=
  ∀ (i : Instr) (s : State) (a : Reg) (d : Byte),
    (i.form = .shiftRaw a d → reservedShiftDescr d = false →
      ∃ j t, decode [op (0xD8 + no a), d] = .ok (j, []) ∧ exec j s = .next t ∧ exec i s = .next t) ∧
    (i.form = .bitRaw a d → reservedBitDescr d = false →
      ∃ j t, decode [op (0xDC + no a), d] = .ok (j, []) ∧ exec j s = .next t ∧ exec i s = .next t)

/-! ## Conditional branches: 0xE0 to 0xEF -/

/-- R270 to R286, the sixteen Bcc: bcc to bls. `conditions` lists what each asks of the flags; a branch that is taken
goes to the next instruction's address plus the signed displacement, moved by `BRANCH_BASE` (0 by default). CHOICE:
The base is the spec's decision D15 (log 5), the signed conditions D14. -/
def Obligations.BranchesGoWhereTheirConditionSays : Prop :=
  ∀ (s : State) (dd : Byte) (cc : Nat) (taken : Bool), (conditions s.ps)[cc]? = some taken →
    Runs [op (0xE0 + cc), dd] s
      { s with pc := if taken then s.pc + s.params.branchBias + BitVec.ofInt 16 dd.toInt else s.pc }

/-! ## Miscellaneous: 0xF0 to 0xFF -/

/-- R300, R301, R306, MOVE R0, SP, MOVE SP, R0 and ADDI SP, #data: moveR0Sp, moveSpR0, addiSp. No flag is written.
CHOICE: That they write no flag is the spec's decision D12. -/
def Obligations.StackPointerMovesWriteNoFlag : Prop :=
  ∀ (s : State) (d : Byte),
    Runs [0xF0] s { s with regs := s.regs.set .r0 s.sp } ∧
    Runs [0xF1] s { s with sp := s.regs.get .r0 } ∧
    Runs [0xF6, d] s { s with sp := s.sp + BitVec.ofInt 16 d.toInt }

/-- R302, R303, JMP (R0) and JMP addr: jmpR0, jmpAddr. CHOICE: That the operand of JMP addr has its low byte first is
the spec's decision D38, that (R0) is the value of R0 itself D36 (log 17). -/
def Obligations.JumpsGoToTheirTarget : Prop :=
  ∀ (s : State) (addr : Word),
    Runs [0xF2] s { s with pc := s.regs.get .r0 } ∧ Runs [0xF3, lo addr, hi addr] s { s with pc := addr }

/-- R304, R305, ANDI PS, #data and ORI PS, #data: andiPs, oriPs. A flag at a position in 7:0 meets the bit of the data
there; a flag at a position in 15:8 is unchanged. CHOICE: Which byte is the spec's decision D11; the positions are a
parameter (D10; log 3). -/
def Obligations.AndiAndOriActOnTheLowByteOfPs : Prop :=
  ∀ (s : State) (d : Byte), s.params.psLayout.distinct = true →
    let l := s.params.psLayout
    let both (f : Bool) (p : Fin 16) : Bool := if p.val < 8 then f && d.getLsbD p.val else f
    let either (f : Bool) (p : Fin 16) : Bool := if p.val < 8 then f || d.getLsbD p.val else f
    Runs [0xF4, d] s
      { s with ps := { z := both s.ps.z l.z, n := both s.ps.n l.n, c := both s.ps.c l.c, v := both s.ps.v l.v,
                       u := both s.ps.u l.u, x := both s.ps.x l.x, d := both s.ps.d l.d } } ∧
    Runs [0xF5, d] s
      { s with ps := { z := either s.ps.z l.z, n := either s.ps.n l.n, c := either s.ps.c l.c, v := either s.ps.v l.v,
                       u := either s.ps.u l.u, x := either s.ps.x l.x, d := either s.ps.d l.d } }

/-- R307, SQRT: sqrt. The largest `r` whose square is at most R1. CHOICE: The rounding and the flags are the spec's
decision D27. -/
def Obligations.SqrtIsTheFloorOfTheRoot : Prop :=
  ∀ s : State, ∃ r : Nat, r * r ≤ s.regs.r1.toNat ∧ s.regs.r1.toNat < (r + 1) * (r + 1) ∧
    Runs [0xF7] s (result s .r0 (BitVec.ofNat 16 r))

/-- R308, R309, MULU and MULS: mulu, muls. The 32-bit product, low word and high word to the registers of
`MULDIV_DEST` (R2 and R3 by default), Z and N of all 32 bits. CHOICE: The registers are a parameter (D25; log 6);
where they overlap the second write stands, the model's choice (log 27). -/
def Obligations.MultiplicationsGiveThe32BitProduct : Prop :=
  ∀ s : State,
    let dst := s.params.mulDivDest
    let u : BitVec 32 := BitVec.ofNat 32 (s.regs.r0.toNat * s.regs.r1.toNat)
    let m : BitVec 32 := BitVec.ofInt 32 (s.regs.r0.toInt * s.regs.r1.toInt)
    u.toNat = s.regs.r0.toNat * s.regs.r1.toNat ∧ m.toInt = s.regs.r0.toInt * s.regs.r1.toInt ∧
    Runs [0xF8] s
      { s with regs := (s.regs.set dst.prodLow (u.extractLsb' 0 16)).set dst.prodHigh (u.extractLsb' 16 16)
               ps := { s.ps with z := decide (u = 0#32), n := u.getLsbD 31 } } ∧
    Runs [0xF9] s
      { s with regs := (s.regs.set dst.prodLow (m.extractLsb' 0 16)).set dst.prodHigh (m.extractLsb' 16 16)
               ps := { s.ps with z := decide (m = 0#32), n := m.getLsbD 31 } }

/-- R310, DIVU with a divisor that is not zero: divu. CHOICE: The registers are a parameter (D26; log 6); where they
overlap the second write stands, the model's choice (log 27). -/
def Obligations.DivuDivides : Prop :=
  ∀ s : State, s.regs.r1 ≠ 0#16 →
    let dst := s.params.mulDivDest
    ∃ q r : Nat, s.regs.r0.toNat = q * s.regs.r1.toNat + r ∧ r < s.regs.r1.toNat ∧ q < 65536 ∧
      Runs [0xFA] s
        { s with regs := (s.regs.set dst.quotient (BitVec.ofNat 16 q)).set dst.remainder (BitVec.ofNat 16 r)
                 ps := zn s.ps (BitVec.ofNat 16 q) }

/-- R311, DIVS with a divisor that is not zero: divs. Quotient and remainder are exact; with D at the value of `DIV_D`
(0 by default) the remainder is zero or has the sign of the dividend, with the other value it is never negative; V
says that the quotient is 32768. CHOICE: The meaning of D and the registers are parameters (D26; logs 6 and 7); where
the registers overlap the second write stands (log 27). -/
def Obligations.DivsDividesBothWays : Prop :=
  ∀ s : State, s.regs.r1 ≠ 0#16 →
    let dst := s.params.mulDivDest
    let a := s.regs.r0.toInt
    let b := s.regs.r1.toInt
    ∃ q r : Int, a = q * b + r ∧ r.natAbs < b.natAbs ∧
      (s.ps.d = s.params.divD → r = 0 ∨ (0 < r ∧ 0 < a) ∨ (r < 0 ∧ a < 0)) ∧
      (s.ps.d ≠ s.params.divD → 0 ≤ r) ∧
      Runs [0xFB] s
        { s with regs := (s.regs.set dst.quotient (BitVec.ofInt 16 q)).set dst.remainder (BitVec.ofInt 16 r)
                 ps := { zn s.ps (BitVec.ofInt 16 q) with v := decide (q = 32768) } }

/-- R346, R344, R351, DIVU and DIVS with R1 = 0, whatever R0 is: divu, divs. Vector 2; no register and no flag is
written; the saved PC is the address of the next instruction. CHOICE: What the entry saves and where control goes are
the spec's decisions D2, D3 and D4 (log 17). -/
def Obligations.DivisionByZeroTraps : Prop :=
  ∀ (s : State) (b : Byte), s.wf = true → s.writable (s.sp - 4#16) 4 = true → s.regs.r1 = 0#16 → b = 0xFA ∨ b = 0xFB →
    RunsStoring [b] s
      { s with sp := s.sp - 4#16, psDraws := s.psDraws + 1, pc := s.params.vectorBase.address + 0x8#16 }
      (fun x =>
        if x = s.sp - 4#16 then lo s.psWord
        else if x = s.sp - 3#16 then hi s.psWord
        else if x = s.sp - 2#16 then lo s.pc
        else if x = s.sp - 1#16 then hi s.pc
        else s.byte x)

/-- R312, R313, R314, ADDX R0, R1, SUBX R0, R1 and NEGX R0: addx, subx, negx. X is the carry or borrow in. CHOICE: X
as the carry in and the flags are the spec's decisions D12 and D13. -/
def Obligations.ExtendedArithmeticTakesXIn : Prop :=
  ∀ s : State,
    Runs [0xFC] s (summed s .r0 s.regs.r0 s.regs.r1 s.ps.x.toNat) ∧
    Runs [0xFD] s (subtracted s .r0 s.regs.r0 s.regs.r1 s.ps.x.toNat) ∧
    Runs [0xFE] s (subtracted s .r0 0#16 s.regs.r0 s.ps.x.toNat)

/-- R36, R312: ADD of the low words, then ADDX of the high words with R0 and R1 loaded in between, gives the 32-bit
sum. CHOICE: That X carries between them is the spec's decision D13. -/
def Obligations.AddThenAddxAddsTwoWords : Prop :=
  ∀ (s t u : State) (ah bh : Word), exec .addR0R1 s = .next t →
    exec .addx { t with regs := { t.regs with r0 := ah, r1 := bh } } = .next u →
    u.regs.r0 ++ t.regs.r0 = (ah ++ s.regs.r0) + (bh ++ s.regs.r1)
end

