-- ==== Sys2Proof/Laws/State.lean ====
section
/-! SUPPORT. One lemma per field per update of the state, of the flags and of the registers, so that no proof unfolds
an update. -/

namespace Sys2Proof.Machine

@[simp] theorem State.setReg_regs (s : State) (i : Reg) (w : Word) : (s.setReg i w).regs = s.regs.set i w := rfl
@[simp] theorem State.setReg_pc (s : State) (i : Reg) (w : Word) : (s.setReg i w).pc = s.pc := rfl
@[simp] theorem State.setReg_sp (s : State) (i : Reg) (w : Word) : (s.setReg i w).sp = s.sp := rfl
@[simp] theorem State.setReg_ps (s : State) (i : Reg) (w : Word) : (s.setReg i w).ps = s.ps := rfl
@[simp] theorem State.setReg_h (s : State) (i : Reg) (w : Word) : (s.setReg i w).h = s.h := rfl
@[simp] theorem State.setReg_mem (s : State) (i : Reg) (w : Word) : (s.setReg i w).mem = s.mem := rfl
@[simp] theorem State.setReg_params (s : State) (i : Reg) (w : Word) : (s.setReg i w).params = s.params := rfl
@[simp] theorem State.setReg_psDraws (s : State) (i : Reg) (w : Word) : (s.setReg i w).psDraws = s.psDraws := rfl

@[simp] theorem State.setZN_regs (s : State) (r : Word) : (s.setZN r).regs = s.regs := rfl
@[simp] theorem State.setZN_pc (s : State) (r : Word) : (s.setZN r).pc = s.pc := rfl
@[simp] theorem State.setZN_sp (s : State) (r : Word) : (s.setZN r).sp = s.sp := rfl
@[simp] theorem State.setZN_ps (s : State) (r : Word) : (s.setZN r).ps = s.ps.setZN r := rfl
@[simp] theorem State.setZN_h (s : State) (r : Word) : (s.setZN r).h = s.h := rfl
@[simp] theorem State.setZN_mem (s : State) (r : Word) : (s.setZN r).mem = s.mem := rfl
@[simp] theorem State.setZN_params (s : State) (r : Word) : (s.setZN r).params = s.params := rfl
@[simp] theorem State.setZN_psDraws (s : State) (r : Word) : (s.setZN r).psDraws = s.psDraws := rfl

@[simp] theorem State.putByte_regs (s : State) (a : Word) (b : Byte) : (s.putByte a b).regs = s.regs := rfl
@[simp] theorem State.putByte_pc (s : State) (a : Word) (b : Byte) : (s.putByte a b).pc = s.pc := rfl
@[simp] theorem State.putByte_sp (s : State) (a : Word) (b : Byte) : (s.putByte a b).sp = s.sp := rfl
@[simp] theorem State.putByte_ps (s : State) (a : Word) (b : Byte) : (s.putByte a b).ps = s.ps := rfl
@[simp] theorem State.putByte_h (s : State) (a : Word) (b : Byte) : (s.putByte a b).h = s.h := rfl
@[simp] theorem State.putByte_mem (s : State) (a : Word) (b : Byte) : (s.putByte a b).mem = Memory.write s.mem a.toNat b := rfl
@[simp] theorem State.putByte_params (s : State) (a : Word) (b : Byte) : (s.putByte a b).params = s.params := rfl
@[simp] theorem State.putByte_psDraws (s : State) (a : Word) (b : Byte) : (s.putByte a b).psDraws = s.psDraws := rfl

@[simp] theorem State.putWord_regs (s : State) (a w : Word) : (s.putWord a w).regs = s.regs := rfl
@[simp] theorem State.putWord_pc (s : State) (a w : Word) : (s.putWord a w).pc = s.pc := rfl
@[simp] theorem State.putWord_sp (s : State) (a w : Word) : (s.putWord a w).sp = s.sp := rfl
@[simp] theorem State.putWord_ps (s : State) (a w : Word) : (s.putWord a w).ps = s.ps := rfl
@[simp] theorem State.putWord_h (s : State) (a w : Word) : (s.putWord a w).h = s.h := rfl
@[simp] theorem State.putWord_mem (s : State) (a w : Word) : (s.putWord a w).mem = Memory.write (Memory.write s.mem a.toNat (w.extractLsb' 0 8)) (a + 1#16).toNat (w.extractLsb' 8 8) := rfl
@[simp] theorem State.putWord_params (s : State) (a w : Word) : (s.putWord a w).params = s.params := rfl
@[simp] theorem State.putWord_psDraws (s : State) (a w : Word) : (s.putWord a w).psDraws = s.psDraws := rfl

@[simp] theorem State.drawn_regs (s : State) : (s.drawn).regs = s.regs := rfl
@[simp] theorem State.drawn_pc (s : State) : (s.drawn).pc = s.pc := rfl
@[simp] theorem State.drawn_sp (s : State) : (s.drawn).sp = s.sp := rfl
@[simp] theorem State.drawn_ps (s : State) : (s.drawn).ps = s.ps := rfl
@[simp] theorem State.drawn_h (s : State) : (s.drawn).h = s.h := rfl
@[simp] theorem State.drawn_mem (s : State) : (s.drawn).mem = s.mem := rfl
@[simp] theorem State.drawn_params (s : State) : (s.drawn).params = s.params := rfl
@[simp] theorem State.drawn_psDraws (s : State) : (s.drawn).psDraws = s.psDraws + 1 := rfl

@[simp] theorem State.setPs_regs (s : State) (w : Word) : (s.setPs w).regs = s.regs := rfl
@[simp] theorem State.setPs_pc (s : State) (w : Word) : (s.setPs w).pc = s.pc := rfl
@[simp] theorem State.setPs_sp (s : State) (w : Word) : (s.setPs w).sp = s.sp := rfl
@[simp] theorem State.setPs_ps (s : State) (w : Word) : (s.setPs w).ps = Flags.ofImage s.params.psLayout w := rfl
@[simp] theorem State.setPs_h (s : State) (w : Word) : (s.setPs w).h = s.h := rfl
@[simp] theorem State.setPs_mem (s : State) (w : Word) : (s.setPs w).mem = s.mem := rfl
@[simp] theorem State.setPs_params (s : State) (w : Word) : (s.setPs w).params = s.params := rfl
@[simp] theorem State.setPs_psDraws (s : State) (w : Word) : (s.setPs w).psDraws = s.psDraws := rfl

@[simp] theorem State.setPair_regs (s : State) (a b : Reg) (v w : Word) : (s.setPair a b v w).regs = (s.regs.set a v).set b w := rfl
@[simp] theorem State.setPair_pc (s : State) (a b : Reg) (v w : Word) : (s.setPair a b v w).pc = s.pc := rfl
@[simp] theorem State.setPair_sp (s : State) (a b : Reg) (v w : Word) : (s.setPair a b v w).sp = s.sp := rfl
@[simp] theorem State.setPair_ps (s : State) (a b : Reg) (v w : Word) : (s.setPair a b v w).ps = s.ps := rfl
@[simp] theorem State.setPair_h (s : State) (a b : Reg) (v w : Word) : (s.setPair a b v w).h = s.h := rfl
@[simp] theorem State.setPair_mem (s : State) (a b : Reg) (v w : Word) : (s.setPair a b v w).mem = s.mem := rfl
@[simp] theorem State.setPair_params (s : State) (a b : Reg) (v w : Word) : (s.setPair a b v w).params = s.params := rfl
@[simp] theorem State.setPair_psDraws (s : State) (a b : Reg) (v w : Word) : (s.setPair a b v w).psDraws = s.psDraws := rfl

@[simp] theorem State.divideResult_regs (s : State) (q r : Word) : (s.divideResult q r).regs = (s.regs.set s.params.mulDivDest.quotient q).set s.params.mulDivDest.remainder r := rfl
@[simp] theorem State.divideResult_pc (s : State) (q r : Word) : (s.divideResult q r).pc = s.pc := rfl
@[simp] theorem State.divideResult_sp (s : State) (q r : Word) : (s.divideResult q r).sp = s.sp := rfl
@[simp] theorem State.divideResult_ps (s : State) (q r : Word) : (s.divideResult q r).ps = s.ps.setZN q := rfl
@[simp] theorem State.divideResult_h (s : State) (q r : Word) : (s.divideResult q r).h = s.h := rfl
@[simp] theorem State.divideResult_mem (s : State) (q r : Word) : (s.divideResult q r).mem = s.mem := rfl
@[simp] theorem State.divideResult_params (s : State) (q r : Word) : (s.divideResult q r).params = s.params := rfl
@[simp] theorem State.divideResult_psDraws (s : State) (q r : Word) : (s.divideResult q r).psDraws = s.psDraws := rfl

@[simp] theorem Flags.setZN_z (f : Flags) (r : Word) : (f.setZN r).z = (r == 0#16) := rfl
@[simp] theorem Flags.setZN_n (f : Flags) (r : Word) : (f.setZN r).n = (r.msb) := rfl
@[simp] theorem Flags.setZN_c (f : Flags) (r : Word) : (f.setZN r).c = (f.c) := rfl
@[simp] theorem Flags.setZN_v (f : Flags) (r : Word) : (f.setZN r).v = (f.v) := rfl
@[simp] theorem Flags.setZN_u (f : Flags) (r : Word) : (f.setZN r).u = (f.u) := rfl
@[simp] theorem Flags.setZN_x (f : Flags) (r : Word) : (f.setZN r).x = (f.x) := rfl
@[simp] theorem Flags.setZN_d (f : Flags) (r : Word) : (f.setZN r).d = (f.d) := rfl

@[simp] theorem Flags.setSum_z (f : Flags) (q : AddResult) : (f.setSum q).z = (q.r == 0#16) := rfl
@[simp] theorem Flags.setSum_n (f : Flags) (q : AddResult) : (f.setSum q).n = (q.r.msb) := rfl
@[simp] theorem Flags.setSum_c (f : Flags) (q : AddResult) : (f.setSum q).c = (q.c) := rfl
@[simp] theorem Flags.setSum_v (f : Flags) (q : AddResult) : (f.setSum q).v = (q.v) := rfl
@[simp] theorem Flags.setSum_u (f : Flags) (q : AddResult) : (f.setSum q).u = (f.u) := rfl
@[simp] theorem Flags.setSum_x (f : Flags) (q : AddResult) : (f.setSum q).x = (q.c) := rfl
@[simp] theorem Flags.setSum_d (f : Flags) (q : AddResult) : (f.setSum q).d = (f.d) := rfl

@[simp] theorem Flags.setCompare_z (f : Flags) (q : AddResult) : (f.setCompare q).z = (q.r == 0#16) := rfl
@[simp] theorem Flags.setCompare_n (f : Flags) (q : AddResult) : (f.setCompare q).n = (q.r.msb) := rfl
@[simp] theorem Flags.setCompare_c (f : Flags) (q : AddResult) : (f.setCompare q).c = (q.c) := rfl
@[simp] theorem Flags.setCompare_v (f : Flags) (q : AddResult) : (f.setCompare q).v = (q.v) := rfl
@[simp] theorem Flags.setCompare_u (f : Flags) (q : AddResult) : (f.setCompare q).u = (f.u) := rfl
@[simp] theorem Flags.setCompare_x (f : Flags) (q : AddResult) : (f.setCompare q).x = (f.x) := rfl
@[simp] theorem Flags.setCompare_d (f : Flags) (q : AddResult) : (f.setCompare q).d = (f.d) := rfl

@[simp] theorem Flags.setProduct_z (f : Flags) (p : BitVec 32) : (f.setProduct p).z = (p == 0#32) := rfl
@[simp] theorem Flags.setProduct_n (f : Flags) (p : BitVec 32) : (f.setProduct p).n = (p.msb) := rfl
@[simp] theorem Flags.setProduct_c (f : Flags) (p : BitVec 32) : (f.setProduct p).c = (f.c) := rfl
@[simp] theorem Flags.setProduct_v (f : Flags) (p : BitVec 32) : (f.setProduct p).v = (f.v) := rfl
@[simp] theorem Flags.setProduct_u (f : Flags) (p : BitVec 32) : (f.setProduct p).u = (f.u) := rfl
@[simp] theorem Flags.setProduct_x (f : Flags) (p : BitVec 32) : (f.setProduct p).x = (f.x) := rfl
@[simp] theorem Flags.setProduct_d (f : Flags) (p : BitVec 32) : (f.setProduct p).d = (f.d) := rfl

@[simp] theorem Flags.ofImage_z (l : Config.PsLayout) (w : Word) : (Flags.ofImage l w).z = w.getLsbD l.z.val := rfl
@[simp] theorem Flags.ofImage_n (l : Config.PsLayout) (w : Word) : (Flags.ofImage l w).n = w.getLsbD l.n.val := rfl
@[simp] theorem Flags.ofImage_c (l : Config.PsLayout) (w : Word) : (Flags.ofImage l w).c = w.getLsbD l.c.val := rfl
@[simp] theorem Flags.ofImage_v (l : Config.PsLayout) (w : Word) : (Flags.ofImage l w).v = w.getLsbD l.v.val := rfl
@[simp] theorem Flags.ofImage_u (l : Config.PsLayout) (w : Word) : (Flags.ofImage l w).u = w.getLsbD l.u.val := rfl
@[simp] theorem Flags.ofImage_x (l : Config.PsLayout) (w : Word) : (Flags.ofImage l w).x = w.getLsbD l.x.val := rfl
@[simp] theorem Flags.ofImage_d (l : Config.PsLayout) (w : Word) : (Flags.ofImage l w).d = w.getLsbD l.d.val := rfl

/-- A register that was written reads as the value written. -/
@[simp] theorem Regs.get_set_same (g : Regs) (i : Reg) (w : Word) : (g.set i w).get i = w := by
  cases i <;> rfl

/-- A register that was not written keeps its value. -/
theorem Regs.get_set_of_ne (g : Regs) {i j : Reg} (w : Word) (h : j ≠ i) : (g.set i w).get j = g.get j := by
  cases i <;> cases j <;> first | rfl | exact absurd rfl h

/-- Reading any register after a write. -/
theorem Regs.get_set (g : Regs) (i j : Reg) (w : Word) : (g.set i w).get j = if j = i then w else g.get j := by
  cases i <;> cases j <;> rfl

/-- The second of two writes to one register stays. -/
@[simp] theorem Regs.set_set (g : Regs) (i : Reg) (v w : Word) : (g.set i v).set i w = g.set i w := by
  cases i <;> rfl

/-- Writing back what a register holds changes nothing. -/
@[simp] theorem Regs.set_get (g : Regs) (i : Reg) : g.set i (g.get i) = g := by
  cases i <;> rfl

/-- Two register files with the same four registers are one. -/
theorem Regs.ext_get {g g' : Regs} (h : ∀ i, g.get i = g'.get i) : g = g' := by
  have h0 := h .r0
  have h1 := h .r1
  have h2 := h .r2
  have h3 := h .r3
  cases g
  cases g'
  simp only [Regs.get] at h0 h1 h2 h3
  subst h0 h1 h2 h3
  rfl

@[simp] theorem State.setReg_reg_same (s : State) (i : Reg) (w : Word) : (s.setReg i w).reg i = w :=
  Regs.get_set_same _ _ _

theorem State.setReg_reg (s : State) (i j : Reg) (w : Word) :
    (s.setReg i w).reg j = if j = i then w else s.reg j := Regs.get_set _ _ _ _

@[simp] theorem State.setZN_reg (s : State) (r : Word) (i : Reg) : (s.setZN r).reg i = s.reg i := rfl
@[simp] theorem State.putByte_reg (s : State) (a : Word) (b : Byte) (i : Reg) : (s.putByte a b).reg i = s.reg i := rfl
@[simp] theorem State.putWord_reg (s : State) (a w : Word) (i : Reg) : (s.putWord a w).reg i = s.reg i := rfl
@[simp] theorem State.drawn_reg (s : State) (i : Reg) : s.drawn.reg i = s.reg i := rfl
@[simp] theorem State.setPs_reg (s : State) (w : Word) (i : Reg) : (s.setPs w).reg i = s.reg i := rfl
@[simp] theorem State.setReg_byte (s : State) (i : Reg) (w a : Word) : (s.setReg i w).byte a = s.byte a := rfl
@[simp] theorem State.setZN_byte (s : State) (r a : Word) : (s.setZN r).byte a = s.byte a := rfl
@[simp] theorem State.drawn_byte (s : State) (a : Word) : s.drawn.byte a = s.byte a := rfl
@[simp] theorem State.setPs_byte (s : State) (w a : Word) : (s.setPs w).byte a = s.byte a := rfl

@[simp] theorem State.bump_pc (s : State) (w : Width) (a : Word) (ea : EA) : (s.bump w a ea).pc = s.pc := by
  cases ea <;> rfl
@[simp] theorem State.bump_sp (s : State) (w : Width) (a : Word) (ea : EA) : (s.bump w a ea).sp = s.sp := by
  cases ea <;> rfl
@[simp] theorem State.bump_ps (s : State) (w : Width) (a : Word) (ea : EA) : (s.bump w a ea).ps = s.ps := by
  cases ea <;> rfl
@[simp] theorem State.bump_h (s : State) (w : Width) (a : Word) (ea : EA) : (s.bump w a ea).h = s.h := by
  cases ea <;> rfl
@[simp] theorem State.bump_mem (s : State) (w : Width) (a : Word) (ea : EA) : (s.bump w a ea).mem = s.mem := by
  cases ea <;> rfl
@[simp] theorem State.bump_params (s : State) (w : Width) (a : Word) (ea : EA) : (s.bump w a ea).params = s.params := by
  cases ea <;> rfl
@[simp] theorem State.bump_psDraws (s : State) (w : Width) (a : Word) (ea : EA) : (s.bump w a ea).psDraws = s.psDraws := by
  cases ea <;> rfl

@[simp] theorem State.bump_ind (s : State) (w : Width) (a : Word) (r : Reg) : s.bump w a (.ind r) = s := rfl
@[simp] theorem State.bump_postInc (s : State) (w : Width) (a : Word) (r : Reg) :
    s.bump w a (.postInc r) = s.setReg r (a + w.bytes) := rfl
@[simp] theorem State.bump_spRel (s : State) (w : Width) (a : Word) (m : Byte) : s.bump w a (.spRel m) = s := rfl
@[simp] theorem State.bump_abs (s : State) (w : Width) (a addr : Word) : s.bump w a (.abs addr) = s := rfl

end Sys2Proof.Machine
end

