-- ==== Sys2Proof/Laws/Memory.lean ====
section
/-! SUPPORT. Memory: reads after writes, and the canonical form that every write keeps. -/

namespace Sys2Proof.Machine

@[simp] theorem Memory.read_nil (a : Nat) : Memory.read [] a = Memory.unlisted := rfl

theorem Memory.read_insert (m : Memory) (a b : Nat) (w : Byte) :
    Memory.read (Memory.insert m a w) b = if b = a then w else Memory.read m b := by
  induction m with
  | nil => simp [Memory.insert, Memory.read]
  | cons p m ih =>
    obtain ⟨k, v⟩ := p
    by_cases hlt : a < k
    · simp [Memory.insert, hlt, Memory.read]
    · by_cases hak : a = k
      · subst hak
        by_cases hb : b = a <;> simp [Memory.insert, Memory.read, hb]
      · by_cases hb : b = k
        · subst hb
          have : b ≠ a := fun h => hak h.symm
          simp [Memory.insert, hlt, hak, Memory.read, this]
        · simp [Memory.insert, hlt, hak, Memory.read, ih, hb]

/-- Below the first address a form allows, a well-formed memory lists nothing. -/
theorem Memory.read_of_wfFrom {m : Memory} {lo a : Nat} (h : Memory.wfFrom m lo = true) (ha : a < lo) :
    Memory.read m a = Memory.unlisted := by
  induction m generalizing lo with
  | nil => rfl
  | cons p m ih =>
    obtain ⟨k, v⟩ := p
    simp only [Memory.wfFrom, Bool.and_eq_true, decide_eq_true_eq] at h
    have hk : a ≠ k := by omega
    have : a < k + 1 := by omega
    simp [Memory.read, hk, ih h.2 this]

theorem Memory.read_erase {m : Memory} {lo : Nat} (h : Memory.wfFrom m lo = true) (a b : Nat) :
    Memory.read (Memory.erase m a) b = if b = a then Memory.unlisted else Memory.read m b := by
  induction m generalizing lo with
  | nil => simp [Memory.erase]
  | cons p m ih =>
    obtain ⟨k, v⟩ := p
    simp only [Memory.wfFrom, Bool.and_eq_true, decide_eq_true_eq] at h
    by_cases hak : a = k
    · subst hak
      by_cases hb : b = a
      · subst hb
        simp [Memory.erase, Memory.read_of_wfFrom h.2 (Nat.lt_succ_self b)]
      · simp [Memory.erase, Memory.read, hb]
    · by_cases hb : b = k
      · subst hb
        have : b ≠ a := fun h => hak h.symm
        simp [Memory.erase, hak, Memory.read, this]
      · simp [Memory.erase, hak, Memory.read, ih h.2, hb]

/-- Reading after a write (R8, R73): the byte written at its address, every other byte as before. -/
theorem Memory.read_write {m : Memory} (h : Memory.wf m = true) (a b : Nat) (w : Byte) :
    Memory.read (Memory.write m a w) b = if b = a then w else Memory.read m b := by
  unfold Memory.write
  split
  · next hw => rw [Memory.read_erase h]; simp [hw]
  · exact Memory.read_insert m a b w

theorem Memory.wfFrom_mono {m : Memory} {lo lo' : Nat} (h : Memory.wfFrom m lo = true) (hl : lo' ≤ lo) :
    Memory.wfFrom m lo' = true := by
  cases m with
  | nil => rfl
  | cons p m =>
    obtain ⟨k, v⟩ := p
    simp only [Memory.wfFrom, Bool.and_eq_true, decide_eq_true_eq] at h ⊢
    exact ⟨⟨⟨by omega, h.1.1.2⟩, h.1.2⟩, h.2⟩

theorem Memory.wfFrom_erase {m : Memory} {lo : Nat} (a : Nat) (h : Memory.wfFrom m lo = true) :
    Memory.wfFrom (Memory.erase m a) lo = true := by
  induction m generalizing lo with
  | nil => rfl
  | cons p m ih =>
    obtain ⟨k, v⟩ := p
    have h' := h
    simp only [Memory.wfFrom, Bool.and_eq_true, decide_eq_true_eq] at h
    by_cases hak : a = k
    · simpa [Memory.erase, hak] using Memory.wfFrom_mono h.2 (by omega)
    · simp only [Memory.erase, hak, if_false, Memory.wfFrom, Bool.and_eq_true, decide_eq_true_eq]
      exact ⟨h.1, ih h.2⟩

theorem Memory.wfFrom_insert {m : Memory} {lo a : Nat} {w : Byte} (ha : a < 65536) (hl : lo ≤ a)
    (hw : (w != Memory.unlisted) = true) (h : Memory.wfFrom m lo = true) :
    Memory.wfFrom (Memory.insert m a w) lo = true := by
  induction m generalizing lo with
  | nil => simp only [Memory.insert, Memory.wfFrom, Bool.and_eq_true, decide_eq_true_eq]; exact ⟨⟨⟨hl, ha⟩, hw⟩, trivial⟩
  | cons p m ih =>
    obtain ⟨k, v⟩ := p
    simp only [Memory.wfFrom, Bool.and_eq_true, decide_eq_true_eq] at h
    by_cases hlt : a < k
    · simp only [Memory.insert, hlt, if_true, Memory.wfFrom, Bool.and_eq_true, decide_eq_true_eq]
      exact ⟨⟨⟨hl, ha⟩, hw⟩, ⟨⟨by omega, h.1.1.2⟩, h.1.2⟩, h.2⟩
    · by_cases hak : a = k
      · subst hak
        simp only [Memory.insert, Nat.lt_irrefl, if_false, if_true, Memory.wfFrom, Bool.and_eq_true, decide_eq_true_eq]
        exact ⟨⟨⟨hl, ha⟩, hw⟩, h.2⟩
      · simp only [Memory.insert, hlt, hak, if_false, Memory.wfFrom, Bool.and_eq_true, decide_eq_true_eq]
        exact ⟨h.1, ih (by omega) h.2⟩

/-- Every write at an address of the machine keeps the canonical form. -/
theorem Memory.wf_write {m : Memory} {a : Nat} (w : Byte) (ha : a < 65536) (h : Memory.wf m = true) :
    Memory.wf (Memory.write m a w) = true := by
  unfold Memory.write
  split
  · exact Memory.wfFrom_erase a h
  · next hw => exact Memory.wfFrom_insert ha (Nat.zero_le _) (by simpa using hw) h

theorem Memory.wf_nil : Memory.wf [] = true := rfl

/-- One byte stored through the state keeps the canonical form. -/
theorem State.putByte_wf (s : State) (a : Word) (b : Byte) (h : Memory.wf s.mem = true) :
    Memory.wf (s.putByte a b).mem = true := Memory.wf_write b a.isLt h

/-- A word stored through the state keeps the canonical form. -/
theorem State.putWord_wf (s : State) (a w : Word) (h : Memory.wf s.mem = true) :
    Memory.wf (s.putWord a w).mem = true := State.putByte_wf _ _ _ (State.putByte_wf s a _ h)

/-- Bytes put in memory by a loader keep the canonical form. -/
theorem State.putBytes_wf (bs : List Byte) (s : State) (a : Word) (h : Memory.wf s.mem = true) :
    Memory.wf (s.putBytes a bs).mem = true := by
  induction bs generalizing s a with
  | nil => exact h
  | cons b bs ih => exact ih _ _ (State.putByte_wf s a b h)

/-- Reading any byte after a byte store. -/
theorem State.putByte_byte {s : State} (h : Memory.wf s.mem = true) (a x : Word) (b : Byte) :
    (s.putByte a b).byte x = if x = a then b else s.byte x := by
  unfold State.byte State.putByte
  rw [Memory.read_write h]
  simp [BitVec.toNat_inj]

/-- Reading any byte after a word store (R62): low byte at the address, high byte at the next. -/
theorem State.putWord_byte {s : State} (h : Memory.wf s.mem = true) (a x w : Word) :
    (s.putWord a w).byte x =
      if x = a then w.extractLsb' 0 8 else if x = a + 1#16 then w.extractLsb' 8 8 else s.byte x := by
  unfold State.putWord
  rw [State.putByte_byte (State.putByte_wf s a _ h), State.putByte_byte h]
  by_cases h1 : x = a
  · have : a ≠ a + 1#16 := by bv_omega
    simp [h1, this]
  · simp [h1]

/-- Two well-formed memories that read alike are equal: equal memories are equal data. -/
theorem Memory.ext_of_wfFrom {m m' : Memory} {lo : Nat} (h : Memory.wfFrom m lo = true)
    (h' : Memory.wfFrom m' lo = true) (hr : ∀ a, Memory.read m a = Memory.read m' a) : m = m' := by
  induction m generalizing m' lo with
  | nil =>
    cases m' with
    | nil => rfl
    | cons q m' =>
      obtain ⟨k', v'⟩ := q
      simp only [Memory.wfFrom, Bool.and_eq_true, decide_eq_true_eq, bne_iff_ne] at h'
      exact absurd (by simpa [Memory.read] using (hr k').symm) h'.1.2
  | cons p m ih =>
    obtain ⟨k, v⟩ := p
    have hw := h
    simp only [Memory.wfFrom, Bool.and_eq_true, decide_eq_true_eq, bne_iff_ne] at h
    cases m' with
    | nil => exact absurd (by simpa [Memory.read] using hr k) h.1.2
    | cons q m' =>
      obtain ⟨k', v'⟩ := q
      have hw' := h'
      simp only [Memory.wfFrom, Bool.and_eq_true, decide_eq_true_eq, bne_iff_ne] at h'
      have hkk : k = k' := by
        rcases Nat.lt_trichotomy k k' with hlt | heq | hgt
        · have h1 := hr k
          have hne : k ≠ k' := by omega
          simp only [Memory.read, if_true, hne, if_false] at h1
          exact absurd (h1.trans (Memory.read_of_wfFrom h'.2 (by omega))) h.1.2
        · exact heq
        · have h1 := hr k'
          have hne : k' ≠ k := by omega
          simp only [Memory.read, if_true, hne, if_false] at h1
          exact absurd (h1.symm.trans (Memory.read_of_wfFrom h.2 (by omega))) h'.1.2
      subst hkk
      have hv : v = v' := by simpa [Memory.read] using hr k
      subst hv
      have ht : m = m' := by
        refine ih h.2 h'.2 (fun a => ?_)
        by_cases hak : a = k
        · subst hak
          rw [Memory.read_of_wfFrom h.2 (Nat.lt_succ_self a), Memory.read_of_wfFrom h'.2 (Nat.lt_succ_self a)]
        · simpa [Memory.read, hak] using hr a
      rw [ht]

end Sys2Proof.Machine
end

