-- ==== Sys2Proof/Laws/Ops.lean ====
section
/-! SUPPORT. For each shared operation one lemma that says what it answers where the accesses are allowed, and one that
says all there is when it answers a next state. -/

namespace Sys2Proof.Machine

/-! ## Guards -/

theorem State.guardRead_eq {s : State} {a : Word} (k : Result) (h : s.params.canRead a = true) :
    s.guardRead a k = k := by
  cases hk : s.params.kindAt a <;> simp_all [Config.Params.canRead, State.guardRead]

theorem State.guardWrite_eq {s : State} {a : Word} (k : Result) (h : s.params.canWrite a = true) :
    s.guardWrite a k = k := by
  cases hk : s.params.kindAt a <;> simp_all [Config.Params.canWrite, State.guardWrite]

theorem State.guardRead_next {s t : State} {a : Word} {k : Result} (h : s.guardRead a k = .next t) :
    s.params.canRead a = true ∧ k = .next t := by
  cases hk : s.params.kindAt a <;> simp_all [Config.Params.canRead, State.guardRead]

theorem State.guardWrite_next {s t : State} {a : Word} {k : Result} (h : s.guardWrite a k = .next t) :
    s.params.canWrite a = true ∧ k = .next t := by
  cases hk : s.params.kindAt a <;> simp_all [Config.Params.canWrite, State.guardWrite]

theorem State.guardReads_eq {s : State} {a : Word} {n : Nat} (k : Result) (h : s.readable a n = true) :
    s.guardReads a n k = k := by
  induction n generalizing a with
  | zero => rfl
  | succ n ih =>
    simp only [State.readable, Bool.and_eq_true] at h
    rw [State.guardReads, State.guardRead_eq _ h.1, ih h.2]

theorem State.guardWrites_eq {s : State} {a : Word} {n : Nat} (k : Result) (h : s.writable a n = true) :
    s.guardWrites a n k = k := by
  induction n generalizing a with
  | zero => rfl
  | succ n ih =>
    simp only [State.writable, Bool.and_eq_true] at h
    rw [State.guardWrites, State.guardWrite_eq _ h.1, ih h.2]

theorem State.guardReads_next {s t : State} {a : Word} {n : Nat} {k : Result}
    (h : s.guardReads a n k = .next t) : s.readable a n = true ∧ k = .next t := by
  induction n generalizing a with
  | zero => exact ⟨rfl, h⟩
  | succ n ih =>
    obtain ⟨h1, h2⟩ := State.guardRead_next h
    obtain ⟨h3, h4⟩ := ih h2
    exact ⟨by simp [State.readable, h1, h3], h4⟩

theorem State.guardWrites_next {s t : State} {a : Word} {n : Nat} {k : Result}
    (h : s.guardWrites a n k = .next t) : s.writable a n = true ∧ k = .next t := by
  induction n generalizing a with
  | zero => exact ⟨rfl, h⟩
  | succ n ih =>
    obtain ⟨h1, h2⟩ := State.guardWrite_next h
    obtain ⟨h3, h4⟩ := ih h2
    exact ⟨by simp [State.writable, h1, h3], h4⟩

/-- What can be written can be read (R71: RAM). -/
theorem Config.Params.canRead_of_canWrite {p : Config.Params} {a : Word} (h : p.canWrite a = true) :
    p.canRead a = true := by
  cases hk : p.kindAt a <;> simp_all [Config.Params.canWrite, Config.Params.canRead]

/-- Which bytes can be read depends on the parameters alone. -/
theorem State.readable_congr {s t : State} (h : s.params = t.params) (a : Word) (n : Nat) :
    s.readable a n = t.readable a n := by
  induction n generalizing a with
  | zero => rfl
  | succ n ih => simp [State.readable, h, ih]

/-- Which bytes can be written depends on the parameters alone. -/
theorem State.writable_congr {s t : State} (h : s.params = t.params) (a : Word) (n : Nat) :
    s.writable a n = t.writable a n := by
  induction n generalizing a with
  | zero => rfl
  | succ n ih => simp [State.writable, h, ih]

theorem Config.Params.kindAt_of_no_map {p : Config.Params} (h : p.memMap = []) (a : Word) : p.kindAt a = .ram := by
  simp [Config.Params.kindAt, h]

/-- Under the default `MEM_MAP` every byte can be read (R71). -/
theorem State.readable_of_no_map {s : State} (h : s.params.memMap = []) (a : Word) (n : Nat) :
    s.readable a n = true := by
  induction n generalizing a with
  | zero => rfl
  | succ n ih => simp [State.readable, Config.Params.canRead, Config.Params.kindAt_of_no_map h, ih]

/-- Under the default `MEM_MAP` every byte can be written (R71). -/
theorem State.writable_of_no_map {s : State} (h : s.params.memMap = []) (a : Word) (n : Nat) :
    s.writable a n = true := by
  induction n generalizing a with
  | zero => rfl
  | succ n ih => simp [State.writable, Config.Params.canWrite, Config.Params.kindAt_of_no_map h, ih]

/-! ## Loads and stores -/

theorem State.loadWord_eq {s : State} {a : Word} (k : Word → Result) (h : s.readable a 2 = true) :
    s.loadWord a k = k (s.word a) := State.guardReads_eq _ h

theorem State.loadByte_eq {s : State} {a : Word} (k : Word → Result) (h : s.readable a 1 = true) :
    s.loadByte a k = k (zext16 (s.byte a)) := State.guardReads_eq _ h

theorem State.storeWord_eq {s : State} {a : Word} (w : Word) (k : State → Result) (h : s.writable a 2 = true) :
    s.storeWord a w k = k (s.putWord a w) := State.guardWrites_eq _ h

theorem State.storeByte_eq {s : State} {a : Word} (w : Word) (k : State → Result) (h : s.writable a 1 = true) :
    s.storeByte a w k = k (s.putByte a (w.extractLsb' 0 8)) := State.guardWrites_eq _ h

theorem State.loadWord_next {s t : State} {a : Word} {k : Word → Result} (h : s.loadWord a k = .next t) :
    s.readable a 2 = true ∧ k (s.word a) = .next t := State.guardReads_next h

theorem State.loadByte_next {s t : State} {a : Word} {k : Word → Result} (h : s.loadByte a k = .next t) :
    s.readable a 1 = true ∧ k (zext16 (s.byte a)) = .next t := State.guardReads_next h

theorem State.storeWord_next {s t : State} {a w : Word} {k : State → Result} (h : s.storeWord a w k = .next t) :
    s.writable a 2 = true ∧ k (s.putWord a w) = .next t := State.guardWrites_next h

theorem State.storeByte_next {s t : State} {a w : Word} {k : State → Result} (h : s.storeByte a w k = .next t) :
    s.writable a 1 = true ∧ k (s.putByte a (w.extractLsb' 0 8)) = .next t := State.guardWrites_next h

/-- A load of either width answers a next state only through its value (R67). -/
theorem State.loadSized_next {s t : State} {w : Width} {a : Word} {k : Word → Result}
    (h : s.loadSized w a k = .next t) :
    (w = .word ∧ s.readable a 2 = true ∧ k (s.word a) = .next t) ∨
      (w = .byte ∧ s.readable a 1 = true ∧ k (zext16 (s.byte a)) = .next t) := by
  cases w with
  | word => exact .inl ⟨rfl, State.loadWord_next h⟩
  | byte => exact .inr ⟨rfl, State.loadByte_next h⟩

/-- A store of either width answers a next state only through the bytes it stored (R67). -/
theorem State.storeSized_next {s t : State} {w : Width} {a v : Word} {k : State → Result}
    (h : s.storeSized w a v k = .next t) :
    (w = .word ∧ s.writable a 2 = true ∧ k (s.putWord a v) = .next t) ∨
      (w = .byte ∧ s.writable a 1 = true ∧ k (s.putByte a (v.extractLsb' 0 8)) = .next t) := by
  cases w with
  | word => exact .inl ⟨rfl, State.storeWord_next h⟩
  | byte => exact .inr ⟨rfl, State.storeByte_next h⟩

/-! ## The stack -/

theorem State.push16_eq {s : State} (v : Word) (k : State → Result) (h : s.writable (s.sp - 2#16) 2 = true) :
    s.push16 v k = k (State.putWord { s with sp := s.sp - 2#16 } (s.sp - 2#16) v) := by
  unfold State.push16
  exact State.storeWord_eq _ _ ((State.writable_congr (t := s) rfl _ _).trans h)

theorem State.push16_next {s t : State} {v : Word} {k : State → Result} (h : s.push16 v k = .next t) :
    s.writable (s.sp - 2#16) 2 = true ∧
      k (State.putWord { s with sp := s.sp - 2#16 } (s.sp - 2#16) v) = .next t := by
  obtain ⟨h1, h2⟩ := State.storeWord_next h
  exact ⟨(State.writable_congr (t := s) rfl _ _).symm.trans h1, h2⟩

theorem State.pop16_eq {s : State} (k : Word → State → Result) (h : s.readable s.sp 2 = true) :
    s.pop16 k = k (s.word s.sp) { s with sp := s.sp + 2#16 } := State.loadWord_eq _ h

theorem State.pop16_next {s t : State} {k : Word → State → Result} (h : s.pop16 k = .next t) :
    s.readable s.sp 2 = true ∧ k (s.word s.sp) { s with sp := s.sp + 2#16 } = .next t := State.loadWord_next h

theorem State.pushPsWord_eq {s : State} (k : State → Result) (h : s.writable (s.sp - 2#16) 2 = true) :
    s.pushPsWord k = k (State.putWord { s.drawn with sp := s.sp - 2#16 } (s.sp - 2#16) s.psWord) := by
  unfold State.pushPsWord
  exact State.push16_eq _ _ ((State.writable_congr (t := s) rfl _ _).trans h)

theorem State.pushPsWord_next {s t : State} {k : State → Result} (h : s.pushPsWord k = .next t) :
    s.writable (s.sp - 2#16) 2 = true ∧
      k (State.putWord { s.drawn with sp := s.sp - 2#16 } (s.sp - 2#16) s.psWord) = .next t := by
  obtain ⟨h1, h2⟩ := State.push16_next h
  exact ⟨(State.writable_congr (t := s) rfl _ _).symm.trans h1, h2⟩

/-! ## Exceptions -/

/-- The machine just after an exception was taken (R344): PC at `sp - 2`, the PS word at `sp - 4`, `pc` at the slot. -/
def State.trapped (s : State) (e : Exception) : State :=
  { (((State.putWord { s with sp := s.sp - 2#16 } (s.sp - 2#16) s.pc)).drawn.putWord (s.sp - 2#16 - 2#16) s.psWord) with
    sp := s.sp - 2#16 - 2#16, pc := s.params.vectorBase.slot e.number }

theorem State.takeException_eq {s : State} (e : Exception) (h1 : s.writable (s.sp - 2#16) 2 = true)
    (h2 : s.writable (s.sp - 2#16 - 2#16) 2 = true) : s.takeException e = .next (s.trapped e) := by
  unfold State.takeException
  rw [State.push16_eq _ _ h1, State.pushPsWord_eq]
  · rfl
  · exact (State.writable_congr (t := s) rfl _ _).trans h2

theorem State.takeException_next {s t : State} {e : Exception} (h : s.takeException e = .next t) :
    s.writable (s.sp - 2#16) 2 = true ∧ s.writable (s.sp - 2#16 - 2#16) 2 = true ∧ t = s.trapped e := by
  obtain ⟨h1, h⟩ := State.push16_next h
  obtain ⟨h2, h⟩ := State.pushPsWord_next h
  refine ⟨h1, (State.writable_congr (t := s) rfl _ _).symm.trans h2, ?_⟩
  injection h with h
  exact h.symm

/-- The machine just after a return from an exception (R205, R350). -/
def State.returned (s : State) : State :=
  { s with ps := Flags.ofImage s.params.psLayout (s.word s.sp), sp := s.sp + 2#16 + 2#16,
           pc := s.word (s.sp + 2#16) }

theorem State.returnFromTrap_eq {s : State} (h1 : s.readable s.sp 2 = true)
    (h2 : s.readable (s.sp + 2#16) 2 = true) : s.returnFromTrap = .next s.returned := by
  unfold State.returnFromTrap
  rw [State.pop16_eq _ h1, State.pop16_eq]
  · rfl
  · exact (State.readable_congr (t := s) rfl _ _).trans h2

theorem State.returnFromTrap_next {s t : State} (h : s.returnFromTrap = .next t) :
    s.readable s.sp 2 = true ∧ s.readable (s.sp + 2#16) 2 = true ∧ t = s.returned := by
  obtain ⟨h1, h⟩ := State.pop16_next h
  obtain ⟨h2, h⟩ := State.pop16_next h
  refine ⟨h1, (State.readable_congr (t := s) rfl _ _).symm.trans h2, ?_⟩
  injection h with h
  exact h.symm

/-! ## Fetch -/

/-- The instruction that stands at `pc`. -/
def State.instrAtPc (s : State) : Instr :=
  decodeOpcode (s.byte s.pc) (s.params.descriptor (s.byte s.pc) (s.byte (s.pc + 1#16))) (s.byte (s.pc + 2#16))

/-- The machine with `pc` moved past the instruction at `pc`. -/
def State.pastInstr (s : State) : State := { s with pc := s.pc + BitVec.ofNat 16 (instrLength (s.byte s.pc)) }

/-- Every instruction has an opcode byte (R90). -/
theorem instrLength_pos : ∀ b : Byte, 0 < instrLength b := by decide

theorem State.fetchInstr_eq {s : State} (k : Instr → State → Result)
    (h : s.readable s.pc (instrLength (s.byte s.pc)) = true) : s.fetchInstr k = k s.instrAtPc s.pastInstr := by
  obtain ⟨n, hn⟩ : ∃ n, instrLength (s.byte s.pc) = n + 1 := ⟨_, (Nat.succ_pred_eq_of_pos (instrLength_pos _)).symm⟩
  rw [hn, State.readable, Bool.and_eq_true] at h
  unfold State.fetchInstr
  dsimp only
  rw [State.guardRead_eq _ h.1, State.guardReads_eq _ (by simpa [hn] using h.2)]
  rfl

theorem State.fetchInstr_next {s t : State} {k : Instr → State → Result} (h : s.fetchInstr k = .next t) :
    s.readable s.pc (instrLength (s.byte s.pc)) = true ∧ k s.instrAtPc s.pastInstr = .next t := by
  obtain ⟨n, hn⟩ : ∃ n, instrLength (s.byte s.pc) = n + 1 := ⟨_, (Nat.succ_pred_eq_of_pos (instrLength_pos _)).symm⟩
  unfold State.fetchInstr at h
  dsimp only at h
  obtain ⟨h1, h⟩ := State.guardRead_next h
  obtain ⟨h2, h⟩ := State.guardReads_next h
  refine ⟨?_, h⟩
  rw [hn] at h2 ⊢
  simp only [Nat.add_sub_cancel] at h2
  simp [State.readable, h1, h2]

/-- What one step can do: the instruction at `pc`, run with `pc` past it, answered. -/
theorem step_next {s t : State} (h : step s = .next t) :
    s.readable s.pc (instrLength (s.byte s.pc)) = true ∧ exec s.instrAtPc s.pastInstr = .next t :=
  State.fetchInstr_next h

end Sys2Proof.Machine
end

