-- ==== Sys2Proof/Laws/Form.lean ====
section
/-! SUPPORT. The meaning of every instruction over its form: 48 cases in place of 274. A lemma about `exec` needs one case
split over `Form`, not one over `Instr`. -/

namespace Sys2Proof.Machine

/-- The shared meaning a form stands for. -/
def formMeaning : Form → State → Result
  | .sxt a => signExtendByte a
  | .move a b => moveReg a b
  | .test a => testReg a
  | .and a b => andReg a b
  | .xor a b => xorReg a b
  | .inv a => invertReg a
  | .or a b => orReg a b
  | .add a b => addReg a b
  | .addq a sel => addQuick a sel
  | .neg a => negateReg a
  | .sub a b => subReg a b
  | .abs a => absReg a
  | .cmp a b => compareReg a b
  | .load w d ea => load w d ea
  | .store w ea d => store w ea d
  | .pop a => popReg a
  | .popPs => popStatus
  | .nopC5 => noOperation
  | .ret => returnFromSubroutine
  | .reti => State.returnFromTrap
  | .push a => pushReg a
  | .pushPs => pushStatus
  | .trap n => execTrap n
  | .jsrR0 => execJsrR0
  | .jsrAddr addr => callAddress addr
  | .loadImmW a data => loadImmediate a data
  | .loadImmB a data => loadImmediate a (zext16 data)
  | .shiftRaw a d => shiftByDescriptor a d
  | .bitRaw a d => bitByDescriptor a d
  | .shift a k c => shiftReg a k c
  | .bit a op n => bitReg a op n
  | .branch c dd => branchIf c dd
  | .moveR0Sp => execMoveR0Sp
  | .moveSpR0 => execMoveSpR0
  | .jmpR0 => execJmpR0
  | .jmpAddr addr => jumpTo addr
  | .andiPs data => execAndiPs data
  | .oriPs data => execOriPs data
  | .addiSp data => execAddiSp data
  | .sqrt => execSqrt
  | .mulu => execMulu
  | .muls => execMuls
  | .divu => execDivu
  | .divs => execDivs
  | .addx => execAddx
  | .subx => execSubx
  | .negx => execNegx
  | .nop => noOperation

/-- What an instruction does is what its form does: no arm of `exec` departs from its row of the table. -/
theorem exec_eq_formMeaning (i : Instr) (s : State) : exec i s = formMeaning i.form s := by
  cases i <;> rfl

end Sys2Proof.Machine
end

