-- ==== Sys2Proof/Laws/PerInstr.lean ====
section
/-! SUPPORT. The per-instruction family `EncodeLength` (LAWS.json): an instruction's encoding is as long as its own opcode
byte says (R91). One lemma per constructor of `Instr`. -/

namespace Sys2Proof.Laws.EncodeLength

/-- The encoding of an instruction begins with an opcode byte whose length (R91) is the number of its bytes. -/
def Statement (i : Instr) : Prop := ∃ op bs, encode i = op :: bs ∧ bs.length + 1 = instrLength op

theorem ldwR0IndR2 : Statement Instr.ldwR0IndR2 := ⟨_, _, rfl, rfl⟩
theorem ldwR1IndR2 : Statement Instr.ldwR1IndR2 := ⟨_, _, rfl, rfl⟩
theorem ldwR0IndR3 : Statement Instr.ldwR0IndR3 := ⟨_, _, rfl, rfl⟩
theorem ldwR1IndR3 : Statement Instr.ldwR1IndR3 := ⟨_, _, rfl, rfl⟩
theorem ldbR0IndR2 : Statement Instr.ldbR0IndR2 := ⟨_, _, rfl, rfl⟩
theorem ldbR1IndR2 : Statement Instr.ldbR1IndR2 := ⟨_, _, rfl, rfl⟩
theorem ldbR0IndR3 : Statement Instr.ldbR0IndR3 := ⟨_, _, rfl, rfl⟩
theorem ldbR1IndR3 : Statement Instr.ldbR1IndR3 := ⟨_, _, rfl, rfl⟩
theorem stwIndR2R0 : Statement Instr.stwIndR2R0 := ⟨_, _, rfl, rfl⟩
theorem stwIndR2R1 : Statement Instr.stwIndR2R1 := ⟨_, _, rfl, rfl⟩
theorem stwIndR3R0 : Statement Instr.stwIndR3R0 := ⟨_, _, rfl, rfl⟩
theorem stwIndR3R1 : Statement Instr.stwIndR3R1 := ⟨_, _, rfl, rfl⟩
theorem stbIndR2R0 : Statement Instr.stbIndR2R0 := ⟨_, _, rfl, rfl⟩
theorem stbIndR2R1 : Statement Instr.stbIndR2R1 := ⟨_, _, rfl, rfl⟩
theorem stbIndR3R0 : Statement Instr.stbIndR3R0 := ⟨_, _, rfl, rfl⟩
theorem stbIndR3R1 : Statement Instr.stbIndR3R1 := ⟨_, _, rfl, rfl⟩
theorem ldwR0IncR2 : Statement Instr.ldwR0IncR2 := ⟨_, _, rfl, rfl⟩
theorem ldwR1IncR2 : Statement Instr.ldwR1IncR2 := ⟨_, _, rfl, rfl⟩
theorem ldwR0IncR3 : Statement Instr.ldwR0IncR3 := ⟨_, _, rfl, rfl⟩
theorem ldwR1IncR3 : Statement Instr.ldwR1IncR3 := ⟨_, _, rfl, rfl⟩
theorem ldbR0IncR2 : Statement Instr.ldbR0IncR2 := ⟨_, _, rfl, rfl⟩
theorem ldbR1IncR2 : Statement Instr.ldbR1IncR2 := ⟨_, _, rfl, rfl⟩
theorem ldbR0IncR3 : Statement Instr.ldbR0IncR3 := ⟨_, _, rfl, rfl⟩
theorem ldbR1IncR3 : Statement Instr.ldbR1IncR3 := ⟨_, _, rfl, rfl⟩
theorem stwIncR2R0 : Statement Instr.stwIncR2R0 := ⟨_, _, rfl, rfl⟩
theorem stwIncR2R1 : Statement Instr.stwIncR2R1 := ⟨_, _, rfl, rfl⟩
theorem stwIncR3R0 : Statement Instr.stwIncR3R0 := ⟨_, _, rfl, rfl⟩
theorem stwIncR3R1 : Statement Instr.stwIncR3R1 := ⟨_, _, rfl, rfl⟩
theorem stbIncR2R0 : Statement Instr.stbIncR2R0 := ⟨_, _, rfl, rfl⟩
theorem stbIncR2R1 : Statement Instr.stbIncR2R1 := ⟨_, _, rfl, rfl⟩
theorem stbIncR3R0 : Statement Instr.stbIncR3R0 := ⟨_, _, rfl, rfl⟩
theorem stbIncR3R1 : Statement Instr.stbIncR3R1 := ⟨_, _, rfl, rfl⟩
theorem ldwR0Sp (m : Byte) : Statement (Instr.ldwR0Sp m) := ⟨_, _, rfl, rfl⟩
theorem ldwR1Sp (m : Byte) : Statement (Instr.ldwR1Sp m) := ⟨_, _, rfl, rfl⟩
theorem ldwR2Sp (m : Byte) : Statement (Instr.ldwR2Sp m) := ⟨_, _, rfl, rfl⟩
theorem ldwR3Sp (m : Byte) : Statement (Instr.ldwR3Sp m) := ⟨_, _, rfl, rfl⟩
theorem ldbR0Sp (m : Byte) : Statement (Instr.ldbR0Sp m) := ⟨_, _, rfl, rfl⟩
theorem ldbR1Sp (m : Byte) : Statement (Instr.ldbR1Sp m) := ⟨_, _, rfl, rfl⟩
theorem ldbR2Sp (m : Byte) : Statement (Instr.ldbR2Sp m) := ⟨_, _, rfl, rfl⟩
theorem ldbR3Sp (m : Byte) : Statement (Instr.ldbR3Sp m) := ⟨_, _, rfl, rfl⟩
theorem stwSpR0 (m : Byte) : Statement (Instr.stwSpR0 m) := ⟨_, _, rfl, rfl⟩
theorem stwSpR1 (m : Byte) : Statement (Instr.stwSpR1 m) := ⟨_, _, rfl, rfl⟩
theorem stwSpR2 (m : Byte) : Statement (Instr.stwSpR2 m) := ⟨_, _, rfl, rfl⟩
theorem stwSpR3 (m : Byte) : Statement (Instr.stwSpR3 m) := ⟨_, _, rfl, rfl⟩
theorem stbSpR0 (m : Byte) : Statement (Instr.stbSpR0 m) := ⟨_, _, rfl, rfl⟩
theorem stbSpR1 (m : Byte) : Statement (Instr.stbSpR1 m) := ⟨_, _, rfl, rfl⟩
theorem stbSpR2 (m : Byte) : Statement (Instr.stbSpR2 m) := ⟨_, _, rfl, rfl⟩
theorem stbSpR3 (m : Byte) : Statement (Instr.stbSpR3 m) := ⟨_, _, rfl, rfl⟩
theorem ldwR0Abs (addr : Word) : Statement (Instr.ldwR0Abs addr) := ⟨_, _, rfl, rfl⟩
theorem ldwR1Abs (addr : Word) : Statement (Instr.ldwR1Abs addr) := ⟨_, _, rfl, rfl⟩
theorem ldwR2Abs (addr : Word) : Statement (Instr.ldwR2Abs addr) := ⟨_, _, rfl, rfl⟩
theorem ldwR3Abs (addr : Word) : Statement (Instr.ldwR3Abs addr) := ⟨_, _, rfl, rfl⟩
theorem ldbR0Abs (addr : Word) : Statement (Instr.ldbR0Abs addr) := ⟨_, _, rfl, rfl⟩
theorem ldbR1Abs (addr : Word) : Statement (Instr.ldbR1Abs addr) := ⟨_, _, rfl, rfl⟩
theorem ldbR2Abs (addr : Word) : Statement (Instr.ldbR2Abs addr) := ⟨_, _, rfl, rfl⟩
theorem ldbR3Abs (addr : Word) : Statement (Instr.ldbR3Abs addr) := ⟨_, _, rfl, rfl⟩
theorem stwAbsR0 (addr : Word) : Statement (Instr.stwAbsR0 addr) := ⟨_, _, rfl, rfl⟩
theorem stwAbsR1 (addr : Word) : Statement (Instr.stwAbsR1 addr) := ⟨_, _, rfl, rfl⟩
theorem stwAbsR2 (addr : Word) : Statement (Instr.stwAbsR2 addr) := ⟨_, _, rfl, rfl⟩
theorem stwAbsR3 (addr : Word) : Statement (Instr.stwAbsR3 addr) := ⟨_, _, rfl, rfl⟩
theorem stbAbsR0 (addr : Word) : Statement (Instr.stbAbsR0 addr) := ⟨_, _, rfl, rfl⟩
theorem stbAbsR1 (addr : Word) : Statement (Instr.stbAbsR1 addr) := ⟨_, _, rfl, rfl⟩
theorem stbAbsR2 (addr : Word) : Statement (Instr.stbAbsR2 addr) := ⟨_, _, rfl, rfl⟩
theorem stbAbsR3 (addr : Word) : Statement (Instr.stbAbsR3 addr) := ⟨_, _, rfl, rfl⟩
theorem popR0 : Statement Instr.popR0 := ⟨_, _, rfl, rfl⟩
theorem popR1 : Statement Instr.popR1 := ⟨_, _, rfl, rfl⟩
theorem popR2 : Statement Instr.popR2 := ⟨_, _, rfl, rfl⟩
theorem popR3 : Statement Instr.popR3 := ⟨_, _, rfl, rfl⟩
theorem popPs : Statement Instr.popPs := ⟨_, _, rfl, rfl⟩
theorem nopC5 : Statement Instr.nopC5 := ⟨_, _, rfl, rfl⟩
theorem ret : Statement Instr.ret := ⟨_, _, rfl, rfl⟩
theorem reti : Statement Instr.reti := ⟨_, _, rfl, rfl⟩
theorem pushR0 : Statement Instr.pushR0 := ⟨_, _, rfl, rfl⟩
theorem pushR1 : Statement Instr.pushR1 := ⟨_, _, rfl, rfl⟩
theorem pushR2 : Statement Instr.pushR2 := ⟨_, _, rfl, rfl⟩
theorem pushR3 : Statement Instr.pushR3 := ⟨_, _, rfl, rfl⟩
theorem pushPs : Statement Instr.pushPs := ⟨_, _, rfl, rfl⟩
theorem trap (n : Byte) : Statement (Instr.trap n) := ⟨_, _, rfl, rfl⟩
theorem jsrR0 : Statement Instr.jsrR0 := ⟨_, _, rfl, rfl⟩
theorem jsrAddr (addr : Word) : Statement (Instr.jsrAddr addr) := ⟨_, _, rfl, rfl⟩
theorem ldwR0Imm (data : Word) : Statement (Instr.ldwR0Imm data) := ⟨_, _, rfl, rfl⟩
theorem ldwR1Imm (data : Word) : Statement (Instr.ldwR1Imm data) := ⟨_, _, rfl, rfl⟩
theorem ldwR2Imm (data : Word) : Statement (Instr.ldwR2Imm data) := ⟨_, _, rfl, rfl⟩
theorem ldwR3Imm (data : Word) : Statement (Instr.ldwR3Imm data) := ⟨_, _, rfl, rfl⟩
theorem ldbR0Imm (data : Byte) : Statement (Instr.ldbR0Imm data) := ⟨_, _, rfl, rfl⟩
theorem ldbR1Imm (data : Byte) : Statement (Instr.ldbR1Imm data) := ⟨_, _, rfl, rfl⟩
theorem ldbR2Imm (data : Byte) : Statement (Instr.ldbR2Imm data) := ⟨_, _, rfl, rfl⟩
theorem ldbR3Imm (data : Byte) : Statement (Instr.ldbR3Imm data) := ⟨_, _, rfl, rfl⟩
theorem shiftR0Descr (d : Byte) : Statement (Instr.shiftR0Descr d) := ⟨_, _, rfl, rfl⟩
theorem shiftR1Descr (d : Byte) : Statement (Instr.shiftR1Descr d) := ⟨_, _, rfl, rfl⟩
theorem shiftR2Descr (d : Byte) : Statement (Instr.shiftR2Descr d) := ⟨_, _, rfl, rfl⟩
theorem shiftR3Descr (d : Byte) : Statement (Instr.shiftR3Descr d) := ⟨_, _, rfl, rfl⟩
theorem bitR0Descr (d : Byte) : Statement (Instr.bitR0Descr d) := ⟨_, _, rfl, rfl⟩
theorem bitR1Descr (d : Byte) : Statement (Instr.bitR1Descr d) := ⟨_, _, rfl, rfl⟩
theorem bitR2Descr (d : Byte) : Statement (Instr.bitR2Descr d) := ⟨_, _, rfl, rfl⟩
theorem bitR3Descr (d : Byte) : Statement (Instr.bitR3Descr d) := ⟨_, _, rfl, rfl⟩
theorem bcc (dd : Byte) : Statement (Instr.bcc dd) := ⟨_, _, rfl, rfl⟩
theorem bcs (dd : Byte) : Statement (Instr.bcs dd) := ⟨_, _, rfl, rfl⟩
theorem bne (dd : Byte) : Statement (Instr.bne dd) := ⟨_, _, rfl, rfl⟩
theorem beq (dd : Byte) : Statement (Instr.beq dd) := ⟨_, _, rfl, rfl⟩
theorem bvc (dd : Byte) : Statement (Instr.bvc dd) := ⟨_, _, rfl, rfl⟩
theorem bvs (dd : Byte) : Statement (Instr.bvs dd) := ⟨_, _, rfl, rfl⟩
theorem bpl (dd : Byte) : Statement (Instr.bpl dd) := ⟨_, _, rfl, rfl⟩
theorem bmi (dd : Byte) : Statement (Instr.bmi dd) := ⟨_, _, rfl, rfl⟩
theorem bge (dd : Byte) : Statement (Instr.bge dd) := ⟨_, _, rfl, rfl⟩
theorem blt (dd : Byte) : Statement (Instr.blt dd) := ⟨_, _, rfl, rfl⟩
theorem bgt (dd : Byte) : Statement (Instr.bgt dd) := ⟨_, _, rfl, rfl⟩
theorem ble (dd : Byte) : Statement (Instr.ble dd) := ⟨_, _, rfl, rfl⟩
theorem buc (dd : Byte) : Statement (Instr.buc dd) := ⟨_, _, rfl, rfl⟩
theorem bus (dd : Byte) : Statement (Instr.bus dd) := ⟨_, _, rfl, rfl⟩
theorem bhi (dd : Byte) : Statement (Instr.bhi dd) := ⟨_, _, rfl, rfl⟩
theorem bls (dd : Byte) : Statement (Instr.bls dd) := ⟨_, _, rfl, rfl⟩
theorem moveR0Sp : Statement Instr.moveR0Sp := ⟨_, _, rfl, rfl⟩
theorem moveSpR0 : Statement Instr.moveSpR0 := ⟨_, _, rfl, rfl⟩
theorem jmpR0 : Statement Instr.jmpR0 := ⟨_, _, rfl, rfl⟩
theorem jmpAddr (addr : Word) : Statement (Instr.jmpAddr addr) := ⟨_, _, rfl, rfl⟩
theorem andiPs (data : Byte) : Statement (Instr.andiPs data) := ⟨_, _, rfl, rfl⟩
theorem oriPs (data : Byte) : Statement (Instr.oriPs data) := ⟨_, _, rfl, rfl⟩
theorem addiSp (data : Byte) : Statement (Instr.addiSp data) := ⟨_, _, rfl, rfl⟩
theorem sqrt : Statement Instr.sqrt := ⟨_, _, rfl, rfl⟩
theorem mulu : Statement Instr.mulu := ⟨_, _, rfl, rfl⟩
theorem muls : Statement Instr.muls := ⟨_, _, rfl, rfl⟩
theorem divu : Statement Instr.divu := ⟨_, _, rfl, rfl⟩
theorem divs : Statement Instr.divs := ⟨_, _, rfl, rfl⟩
theorem addx : Statement Instr.addx := ⟨_, _, rfl, rfl⟩
theorem subx : Statement Instr.subx := ⟨_, _, rfl, rfl⟩
theorem negx : Statement Instr.negx := ⟨_, _, rfl, rfl⟩
theorem nop : Statement Instr.nop := ⟨_, _, rfl, rfl⟩
theorem lslImm (a : Reg) (n : BitVec 4) : Statement (Instr.lslImm a n) := by cases a <;> exact ⟨_, _, rfl, rfl⟩
theorem lsrImm (a : Reg) (n : BitVec 4) : Statement (Instr.lsrImm a n) := by cases a <;> exact ⟨_, _, rfl, rfl⟩
theorem lsReg (a : Reg) (b : Reg) : Statement (Instr.lsReg a b) := by cases a <;> exact ⟨_, _, rfl, rfl⟩
theorem aslImm (a : Reg) (n : BitVec 4) : Statement (Instr.aslImm a n) := by cases a <;> exact ⟨_, _, rfl, rfl⟩
theorem asrImm (a : Reg) (n : BitVec 4) : Statement (Instr.asrImm a n) := by cases a <;> exact ⟨_, _, rfl, rfl⟩
theorem asReg (a : Reg) (b : Reg) : Statement (Instr.asReg a b) := by cases a <;> exact ⟨_, _, rfl, rfl⟩
theorem rolImm (a : Reg) (n : BitVec 4) : Statement (Instr.rolImm a n) := by cases a <;> exact ⟨_, _, rfl, rfl⟩
theorem rorImm (a : Reg) (n : BitVec 4) : Statement (Instr.rorImm a n) := by cases a <;> exact ⟨_, _, rfl, rfl⟩
theorem roReg (a : Reg) (b : Reg) : Statement (Instr.roReg a b) := by cases a <;> exact ⟨_, _, rfl, rfl⟩
theorem roxlImm (a : Reg) (n : BitVec 4) : Statement (Instr.roxlImm a n) := by cases a <;> exact ⟨_, _, rfl, rfl⟩
theorem roxrImm (a : Reg) (n : BitVec 4) : Statement (Instr.roxrImm a n) := by cases a <;> exact ⟨_, _, rfl, rfl⟩
theorem roxReg (a : Reg) (b : Reg) : Statement (Instr.roxReg a b) := by cases a <;> exact ⟨_, _, rfl, rfl⟩
theorem bchgImm (a : Reg) (n : BitVec 4) : Statement (Instr.bchgImm a n) := by cases a <;> exact ⟨_, _, rfl, rfl⟩
theorem bchgReg (a : Reg) (b : Reg) : Statement (Instr.bchgReg a b) := by cases a <;> exact ⟨_, _, rfl, rfl⟩
theorem bclrImm (a : Reg) (n : BitVec 4) : Statement (Instr.bclrImm a n) := by cases a <;> exact ⟨_, _, rfl, rfl⟩
theorem bclrReg (a : Reg) (b : Reg) : Statement (Instr.bclrReg a b) := by cases a <;> exact ⟨_, _, rfl, rfl⟩
theorem bsetImm (a : Reg) (n : BitVec 4) : Statement (Instr.bsetImm a n) := by cases a <;> exact ⟨_, _, rfl, rfl⟩
theorem bsetReg (a : Reg) (b : Reg) : Statement (Instr.bsetReg a b) := by cases a <;> exact ⟨_, _, rfl, rfl⟩
theorem sxtR0 : Statement Instr.sxtR0 := ⟨_, _, rfl, rfl⟩
theorem moveR1R0 : Statement Instr.moveR1R0 := ⟨_, _, rfl, rfl⟩
theorem moveR2R0 : Statement Instr.moveR2R0 := ⟨_, _, rfl, rfl⟩
theorem moveR3R0 : Statement Instr.moveR3R0 := ⟨_, _, rfl, rfl⟩
theorem moveR0R1 : Statement Instr.moveR0R1 := ⟨_, _, rfl, rfl⟩
theorem sxtR1 : Statement Instr.sxtR1 := ⟨_, _, rfl, rfl⟩
theorem moveR2R1 : Statement Instr.moveR2R1 := ⟨_, _, rfl, rfl⟩
theorem moveR3R1 : Statement Instr.moveR3R1 := ⟨_, _, rfl, rfl⟩
theorem moveR0R2 : Statement Instr.moveR0R2 := ⟨_, _, rfl, rfl⟩
theorem moveR1R2 : Statement Instr.moveR1R2 := ⟨_, _, rfl, rfl⟩
theorem sxtR2 : Statement Instr.sxtR2 := ⟨_, _, rfl, rfl⟩
theorem moveR3R2 : Statement Instr.moveR3R2 := ⟨_, _, rfl, rfl⟩
theorem moveR0R3 : Statement Instr.moveR0R3 := ⟨_, _, rfl, rfl⟩
theorem moveR1R3 : Statement Instr.moveR1R3 := ⟨_, _, rfl, rfl⟩
theorem moveR2R3 : Statement Instr.moveR2R3 := ⟨_, _, rfl, rfl⟩
theorem sxtR3 : Statement Instr.sxtR3 := ⟨_, _, rfl, rfl⟩
theorem testR0 : Statement Instr.testR0 := ⟨_, _, rfl, rfl⟩
theorem andR1R0 : Statement Instr.andR1R0 := ⟨_, _, rfl, rfl⟩
theorem andR2R0 : Statement Instr.andR2R0 := ⟨_, _, rfl, rfl⟩
theorem andR3R0 : Statement Instr.andR3R0 := ⟨_, _, rfl, rfl⟩
theorem andR0R1 : Statement Instr.andR0R1 := ⟨_, _, rfl, rfl⟩
theorem testR1 : Statement Instr.testR1 := ⟨_, _, rfl, rfl⟩
theorem andR2R1 : Statement Instr.andR2R1 := ⟨_, _, rfl, rfl⟩
theorem andR3R1 : Statement Instr.andR3R1 := ⟨_, _, rfl, rfl⟩
theorem andR0R2 : Statement Instr.andR0R2 := ⟨_, _, rfl, rfl⟩
theorem andR1R2 : Statement Instr.andR1R2 := ⟨_, _, rfl, rfl⟩
theorem testR2 : Statement Instr.testR2 := ⟨_, _, rfl, rfl⟩
theorem andR3R2 : Statement Instr.andR3R2 := ⟨_, _, rfl, rfl⟩
theorem andR0R3 : Statement Instr.andR0R3 := ⟨_, _, rfl, rfl⟩
theorem andR1R3 : Statement Instr.andR1R3 := ⟨_, _, rfl, rfl⟩
theorem andR2R3 : Statement Instr.andR2R3 := ⟨_, _, rfl, rfl⟩
theorem testR3 : Statement Instr.testR3 := ⟨_, _, rfl, rfl⟩
theorem xorR0R0 : Statement Instr.xorR0R0 := ⟨_, _, rfl, rfl⟩
theorem xorR1R0 : Statement Instr.xorR1R0 := ⟨_, _, rfl, rfl⟩
theorem xorR2R0 : Statement Instr.xorR2R0 := ⟨_, _, rfl, rfl⟩
theorem xorR3R0 : Statement Instr.xorR3R0 := ⟨_, _, rfl, rfl⟩
theorem xorR0R1 : Statement Instr.xorR0R1 := ⟨_, _, rfl, rfl⟩
theorem xorR1R1 : Statement Instr.xorR1R1 := ⟨_, _, rfl, rfl⟩
theorem xorR2R1 : Statement Instr.xorR2R1 := ⟨_, _, rfl, rfl⟩
theorem xorR3R1 : Statement Instr.xorR3R1 := ⟨_, _, rfl, rfl⟩
theorem xorR0R2 : Statement Instr.xorR0R2 := ⟨_, _, rfl, rfl⟩
theorem xorR1R2 : Statement Instr.xorR1R2 := ⟨_, _, rfl, rfl⟩
theorem xorR2R2 : Statement Instr.xorR2R2 := ⟨_, _, rfl, rfl⟩
theorem xorR3R2 : Statement Instr.xorR3R2 := ⟨_, _, rfl, rfl⟩
theorem xorR0R3 : Statement Instr.xorR0R3 := ⟨_, _, rfl, rfl⟩
theorem xorR1R3 : Statement Instr.xorR1R3 := ⟨_, _, rfl, rfl⟩
theorem xorR2R3 : Statement Instr.xorR2R3 := ⟨_, _, rfl, rfl⟩
theorem xorR3R3 : Statement Instr.xorR3R3 := ⟨_, _, rfl, rfl⟩
theorem invR0 : Statement Instr.invR0 := ⟨_, _, rfl, rfl⟩
theorem orR1R0 : Statement Instr.orR1R0 := ⟨_, _, rfl, rfl⟩
theorem orR2R0 : Statement Instr.orR2R0 := ⟨_, _, rfl, rfl⟩
theorem orR3R0 : Statement Instr.orR3R0 := ⟨_, _, rfl, rfl⟩
theorem orR0R1 : Statement Instr.orR0R1 := ⟨_, _, rfl, rfl⟩
theorem invR1 : Statement Instr.invR1 := ⟨_, _, rfl, rfl⟩
theorem orR2R1 : Statement Instr.orR2R1 := ⟨_, _, rfl, rfl⟩
theorem orR3R1 : Statement Instr.orR3R1 := ⟨_, _, rfl, rfl⟩
theorem orR0R2 : Statement Instr.orR0R2 := ⟨_, _, rfl, rfl⟩
theorem orR1R2 : Statement Instr.orR1R2 := ⟨_, _, rfl, rfl⟩
theorem invR2 : Statement Instr.invR2 := ⟨_, _, rfl, rfl⟩
theorem orR3R2 : Statement Instr.orR3R2 := ⟨_, _, rfl, rfl⟩
theorem orR0R3 : Statement Instr.orR0R3 := ⟨_, _, rfl, rfl⟩
theorem orR1R3 : Statement Instr.orR1R3 := ⟨_, _, rfl, rfl⟩
theorem orR2R3 : Statement Instr.orR2R3 := ⟨_, _, rfl, rfl⟩
theorem invR3 : Statement Instr.invR3 := ⟨_, _, rfl, rfl⟩
theorem addR0R0 : Statement Instr.addR0R0 := ⟨_, _, rfl, rfl⟩
theorem addR1R0 : Statement Instr.addR1R0 := ⟨_, _, rfl, rfl⟩
theorem addR2R0 : Statement Instr.addR2R0 := ⟨_, _, rfl, rfl⟩
theorem addR3R0 : Statement Instr.addR3R0 := ⟨_, _, rfl, rfl⟩
theorem addR0R1 : Statement Instr.addR0R1 := ⟨_, _, rfl, rfl⟩
theorem addR1R1 : Statement Instr.addR1R1 := ⟨_, _, rfl, rfl⟩
theorem addR2R1 : Statement Instr.addR2R1 := ⟨_, _, rfl, rfl⟩
theorem addR3R1 : Statement Instr.addR3R1 := ⟨_, _, rfl, rfl⟩
theorem addR0R2 : Statement Instr.addR0R2 := ⟨_, _, rfl, rfl⟩
theorem addR1R2 : Statement Instr.addR1R2 := ⟨_, _, rfl, rfl⟩
theorem addR2R2 : Statement Instr.addR2R2 := ⟨_, _, rfl, rfl⟩
theorem addR3R2 : Statement Instr.addR3R2 := ⟨_, _, rfl, rfl⟩
theorem addR0R3 : Statement Instr.addR0R3 := ⟨_, _, rfl, rfl⟩
theorem addR1R3 : Statement Instr.addR1R3 := ⟨_, _, rfl, rfl⟩
theorem addR2R3 : Statement Instr.addR2R3 := ⟨_, _, rfl, rfl⟩
theorem addR3R3 : Statement Instr.addR3R3 := ⟨_, _, rfl, rfl⟩
theorem addqR0S0 : Statement Instr.addqR0S0 := ⟨_, _, rfl, rfl⟩
theorem addqR1S0 : Statement Instr.addqR1S0 := ⟨_, _, rfl, rfl⟩
theorem addqR2S0 : Statement Instr.addqR2S0 := ⟨_, _, rfl, rfl⟩
theorem addqR3S0 : Statement Instr.addqR3S0 := ⟨_, _, rfl, rfl⟩
theorem addqR0S1 : Statement Instr.addqR0S1 := ⟨_, _, rfl, rfl⟩
theorem addqR1S1 : Statement Instr.addqR1S1 := ⟨_, _, rfl, rfl⟩
theorem addqR2S1 : Statement Instr.addqR2S1 := ⟨_, _, rfl, rfl⟩
theorem addqR3S1 : Statement Instr.addqR3S1 := ⟨_, _, rfl, rfl⟩
theorem addqR0S2 : Statement Instr.addqR0S2 := ⟨_, _, rfl, rfl⟩
theorem addqR1S2 : Statement Instr.addqR1S2 := ⟨_, _, rfl, rfl⟩
theorem addqR2S2 : Statement Instr.addqR2S2 := ⟨_, _, rfl, rfl⟩
theorem addqR3S2 : Statement Instr.addqR3S2 := ⟨_, _, rfl, rfl⟩
theorem addqR0S3 : Statement Instr.addqR0S3 := ⟨_, _, rfl, rfl⟩
theorem addqR1S3 : Statement Instr.addqR1S3 := ⟨_, _, rfl, rfl⟩
theorem addqR2S3 : Statement Instr.addqR2S3 := ⟨_, _, rfl, rfl⟩
theorem addqR3S3 : Statement Instr.addqR3S3 := ⟨_, _, rfl, rfl⟩
theorem negR0 : Statement Instr.negR0 := ⟨_, _, rfl, rfl⟩
theorem subR1R0 : Statement Instr.subR1R0 := ⟨_, _, rfl, rfl⟩
theorem subR2R0 : Statement Instr.subR2R0 := ⟨_, _, rfl, rfl⟩
theorem subR3R0 : Statement Instr.subR3R0 := ⟨_, _, rfl, rfl⟩
theorem subR0R1 : Statement Instr.subR0R1 := ⟨_, _, rfl, rfl⟩
theorem negR1 : Statement Instr.negR1 := ⟨_, _, rfl, rfl⟩
theorem subR2R1 : Statement Instr.subR2R1 := ⟨_, _, rfl, rfl⟩
theorem subR3R1 : Statement Instr.subR3R1 := ⟨_, _, rfl, rfl⟩
theorem subR0R2 : Statement Instr.subR0R2 := ⟨_, _, rfl, rfl⟩
theorem subR1R2 : Statement Instr.subR1R2 := ⟨_, _, rfl, rfl⟩
theorem negR2 : Statement Instr.negR2 := ⟨_, _, rfl, rfl⟩
theorem subR3R2 : Statement Instr.subR3R2 := ⟨_, _, rfl, rfl⟩
theorem subR0R3 : Statement Instr.subR0R3 := ⟨_, _, rfl, rfl⟩
theorem subR1R3 : Statement Instr.subR1R3 := ⟨_, _, rfl, rfl⟩
theorem subR2R3 : Statement Instr.subR2R3 := ⟨_, _, rfl, rfl⟩
theorem negR3 : Statement Instr.negR3 := ⟨_, _, rfl, rfl⟩
theorem absR0 : Statement Instr.absR0 := ⟨_, _, rfl, rfl⟩
theorem cmpR1R0 : Statement Instr.cmpR1R0 := ⟨_, _, rfl, rfl⟩
theorem cmpR2R0 : Statement Instr.cmpR2R0 := ⟨_, _, rfl, rfl⟩
theorem cmpR3R0 : Statement Instr.cmpR3R0 := ⟨_, _, rfl, rfl⟩
theorem cmpR0R1 : Statement Instr.cmpR0R1 := ⟨_, _, rfl, rfl⟩
theorem absR1 : Statement Instr.absR1 := ⟨_, _, rfl, rfl⟩
theorem cmpR2R1 : Statement Instr.cmpR2R1 := ⟨_, _, rfl, rfl⟩
theorem cmpR3R1 : Statement Instr.cmpR3R1 := ⟨_, _, rfl, rfl⟩
theorem cmpR0R2 : Statement Instr.cmpR0R2 := ⟨_, _, rfl, rfl⟩
theorem cmpR1R2 : Statement Instr.cmpR1R2 := ⟨_, _, rfl, rfl⟩
theorem absR2 : Statement Instr.absR2 := ⟨_, _, rfl, rfl⟩
theorem cmpR3R2 : Statement Instr.cmpR3R2 := ⟨_, _, rfl, rfl⟩
theorem cmpR0R3 : Statement Instr.cmpR0R3 := ⟨_, _, rfl, rfl⟩
theorem cmpR1R3 : Statement Instr.cmpR1R3 := ⟨_, _, rfl, rfl⟩
theorem cmpR2R3 : Statement Instr.cmpR2R3 := ⟨_, _, rfl, rfl⟩
theorem absR3 : Statement Instr.absR3 := ⟨_, _, rfl, rfl⟩

end Sys2Proof.Laws.EncodeLength
end

