-- ==== Sys2Proof/Laws/Run.lean ====
section
/-! SUPPORT. What `endsRun` says for each `END_PC`, and all that a run that ended can be. -/

namespace Sys2Proof.Machine

/-- The default `END_PC` (R391): the last instruction left `pc` at its own address. -/
theorem State.endsRun_selfJump {s : State} (h : s.params.endPc = .selfJump) (steps : Nat) (last : Option Word) :
    s.endsRun steps last = true ↔ last = some s.pc := by simp [State.endsRun, h]

/-- A set of end addresses (R391). -/
theorem State.endsRun_addresses {s : State} {ends : List Word} (h : s.params.endPc = .addresses ends) (steps : Nat)
    (last : Option Word) : s.endsRun steps last = true ↔ s.pc ∈ ends := by simp [State.endsRun, h]

/-- A step bound (R391). -/
theorem State.endsRun_stepBound {s : State} {n : Nat} (h : s.params.endPc = .stepBound n) (steps : Nat)
    (last : Option Word) : s.endsRun steps last = true ↔ n ≤ steps := by simp [State.endsRun, h]

/-- A run that ended did so by `END_PC`, in no more steps than it was given. -/
theorem runFrom_ended {steps fuel n : Nat} {last : Option Word} {s t : State}
    (h : runFrom steps last fuel s = .ended n t) :
    steps ≤ n ∧ n ≤ steps + fuel ∧ ∃ a, t.endsRun n a = true := by
  induction fuel generalizing steps last s with
  | zero =>
    unfold runFrom at h
    split at h
    · next he => cases h; exact ⟨Nat.le_refl _, Nat.le_refl _, last, he⟩
    · cases h
  | succ fuel ih =>
    unfold runFrom at h
    split at h
    · next he => cases h; exact ⟨Nat.le_refl _, by omega, last, he⟩
    · dsimp only at h
      split at h
      · obtain ⟨h1, h2, h3⟩ := ih h
        exact ⟨by omega, by omega, h3⟩
      · cases h
      · cases h

end Sys2Proof.Machine
end

