-- ==== Sys2Proof/Tests/Slice0.lean ====
section
/-! SUPPORT. Tests: the decoding of every constructor from bytes written out from the spec's encodings (R95 to R107), the
WellFormed smoke tests, one-step vectors of spec/95_test_vectors.md, and for every statement with hypotheses a state and
operands that meet them. -/

namespace Sys2Proof.Tests

open Sys2Proof.Machine
open Sys2Proof.Spec

/-! ## Decoding: every row of the opcode table, its bytes written out from R95 to R107 -/

theorem test_decode_row_0 :
    decode [0x00] = .ok (.sxtR0, []) ∧
    decode [0x01] = .ok (.moveR1R0, []) ∧
    decode [0x02] = .ok (.moveR2R0, []) ∧
    decode [0x03] = .ok (.moveR3R0, []) ∧
    decode [0x04] = .ok (.moveR0R1, []) ∧
    decode [0x05] = .ok (.sxtR1, []) ∧
    decode [0x06] = .ok (.moveR2R1, []) ∧
    decode [0x07] = .ok (.moveR3R1, []) ∧
    decode [0x08] = .ok (.moveR0R2, []) ∧
    decode [0x09] = .ok (.moveR1R2, []) ∧
    decode [0x0A] = .ok (.sxtR2, []) ∧
    decode [0x0B] = .ok (.moveR3R2, []) ∧
    decode [0x0C] = .ok (.moveR0R3, []) ∧
    decode [0x0D] = .ok (.moveR1R3, []) ∧
    decode [0x0E] = .ok (.moveR2R3, []) ∧
    decode [0x0F] = .ok (.sxtR3, []) :=
  ⟨rfl, rfl, rfl, rfl, rfl, rfl, rfl, rfl, rfl, rfl, rfl, rfl, rfl, rfl, rfl, rfl⟩

theorem test_decode_row_1 :
    decode [0x10] = .ok (.testR0, []) ∧
    decode [0x11] = .ok (.andR1R0, []) ∧
    decode [0x12] = .ok (.andR2R0, []) ∧
    decode [0x13] = .ok (.andR3R0, []) ∧
    decode [0x14] = .ok (.andR0R1, []) ∧
    decode [0x15] = .ok (.testR1, []) ∧
    decode [0x16] = .ok (.andR2R1, []) ∧
    decode [0x17] = .ok (.andR3R1, []) ∧
    decode [0x18] = .ok (.andR0R2, []) ∧
    decode [0x19] = .ok (.andR1R2, []) ∧
    decode [0x1A] = .ok (.testR2, []) ∧
    decode [0x1B] = .ok (.andR3R2, []) ∧
    decode [0x1C] = .ok (.andR0R3, []) ∧
    decode [0x1D] = .ok (.andR1R3, []) ∧
    decode [0x1E] = .ok (.andR2R3, []) ∧
    decode [0x1F] = .ok (.testR3, []) :=
  ⟨rfl, rfl, rfl, rfl, rfl, rfl, rfl, rfl, rfl, rfl, rfl, rfl, rfl, rfl, rfl, rfl⟩

theorem test_decode_row_2 :
    decode [0x20] = .ok (.xorR0R0, []) ∧
    decode [0x21] = .ok (.xorR1R0, []) ∧
    decode [0x22] = .ok (.xorR2R0, []) ∧
    decode [0x23] = .ok (.xorR3R0, []) ∧
    decode [0x24] = .ok (.xorR0R1, []) ∧
    decode [0x25] = .ok (.xorR1R1, []) ∧
    decode [0x26] = .ok (.xorR2R1, []) ∧
    decode [0x27] = .ok (.xorR3R1, []) ∧
    decode [0x28] = .ok (.xorR0R2, []) ∧
    decode [0x29] = .ok (.xorR1R2, []) ∧
    decode [0x2A] = .ok (.xorR2R2, []) ∧
    decode [0x2B] = .ok (.xorR3R2, []) ∧
    decode [0x2C] = .ok (.xorR0R3, []) ∧
    decode [0x2D] = .ok (.xorR1R3, []) ∧
    decode [0x2E] = .ok (.xorR2R3, []) ∧
    decode [0x2F] = .ok (.xorR3R3, []) :=
  ⟨rfl, rfl, rfl, rfl, rfl, rfl, rfl, rfl, rfl, rfl, rfl, rfl, rfl, rfl, rfl, rfl⟩

theorem test_decode_row_3 :
    decode [0x30] = .ok (.invR0, []) ∧
    decode [0x31] = .ok (.orR1R0, []) ∧
    decode [0x32] = .ok (.orR2R0, []) ∧
    decode [0x33] = .ok (.orR3R0, []) ∧
    decode [0x34] = .ok (.orR0R1, []) ∧
    decode [0x35] = .ok (.invR1, []) ∧
    decode [0x36] = .ok (.orR2R1, []) ∧
    decode [0x37] = .ok (.orR3R1, []) ∧
    decode [0x38] = .ok (.orR0R2, []) ∧
    decode [0x39] = .ok (.orR1R2, []) ∧
    decode [0x3A] = .ok (.invR2, []) ∧
    decode [0x3B] = .ok (.orR3R2, []) ∧
    decode [0x3C] = .ok (.orR0R3, []) ∧
    decode [0x3D] = .ok (.orR1R3, []) ∧
    decode [0x3E] = .ok (.orR2R3, []) ∧
    decode [0x3F] = .ok (.invR3, []) :=
  ⟨rfl, rfl, rfl, rfl, rfl, rfl, rfl, rfl, rfl, rfl, rfl, rfl, rfl, rfl, rfl, rfl⟩

theorem test_decode_row_4 :
    decode [0x40] = .ok (.addR0R0, []) ∧
    decode [0x41] = .ok (.addR1R0, []) ∧
    decode [0x42] = .ok (.addR2R0, []) ∧
    decode [0x43] = .ok (.addR3R0, []) ∧
    decode [0x44] = .ok (.addR0R1, []) ∧
    decode [0x45] = .ok (.addR1R1, []) ∧
    decode [0x46] = .ok (.addR2R1, []) ∧
    decode [0x47] = .ok (.addR3R1, []) ∧
    decode [0x48] = .ok (.addR0R2, []) ∧
    decode [0x49] = .ok (.addR1R2, []) ∧
    decode [0x4A] = .ok (.addR2R2, []) ∧
    decode [0x4B] = .ok (.addR3R2, []) ∧
    decode [0x4C] = .ok (.addR0R3, []) ∧
    decode [0x4D] = .ok (.addR1R3, []) ∧
    decode [0x4E] = .ok (.addR2R3, []) ∧
    decode [0x4F] = .ok (.addR3R3, []) :=
  ⟨rfl, rfl, rfl, rfl, rfl, rfl, rfl, rfl, rfl, rfl, rfl, rfl, rfl, rfl, rfl, rfl⟩

theorem test_decode_row_5 :
    decode [0x50] = .ok (.addqR0S0, []) ∧
    decode [0x51] = .ok (.addqR1S0, []) ∧
    decode [0x52] = .ok (.addqR2S0, []) ∧
    decode [0x53] = .ok (.addqR3S0, []) ∧
    decode [0x54] = .ok (.addqR0S1, []) ∧
    decode [0x55] = .ok (.addqR1S1, []) ∧
    decode [0x56] = .ok (.addqR2S1, []) ∧
    decode [0x57] = .ok (.addqR3S1, []) ∧
    decode [0x58] = .ok (.addqR0S2, []) ∧
    decode [0x59] = .ok (.addqR1S2, []) ∧
    decode [0x5A] = .ok (.addqR2S2, []) ∧
    decode [0x5B] = .ok (.addqR3S2, []) ∧
    decode [0x5C] = .ok (.addqR0S3, []) ∧
    decode [0x5D] = .ok (.addqR1S3, []) ∧
    decode [0x5E] = .ok (.addqR2S3, []) ∧
    decode [0x5F] = .ok (.addqR3S3, []) :=
  ⟨rfl, rfl, rfl, rfl, rfl, rfl, rfl, rfl, rfl, rfl, rfl, rfl, rfl, rfl, rfl, rfl⟩

theorem test_decode_row_6 :
    decode [0x60] = .ok (.negR0, []) ∧
    decode [0x61] = .ok (.subR1R0, []) ∧
    decode [0x62] = .ok (.subR2R0, []) ∧
    decode [0x63] = .ok (.subR3R0, []) ∧
    decode [0x64] = .ok (.subR0R1, []) ∧
    decode [0x65] = .ok (.negR1, []) ∧
    decode [0x66] = .ok (.subR2R1, []) ∧
    decode [0x67] = .ok (.subR3R1, []) ∧
    decode [0x68] = .ok (.subR0R2, []) ∧
    decode [0x69] = .ok (.subR1R2, []) ∧
    decode [0x6A] = .ok (.negR2, []) ∧
    decode [0x6B] = .ok (.subR3R2, []) ∧
    decode [0x6C] = .ok (.subR0R3, []) ∧
    decode [0x6D] = .ok (.subR1R3, []) ∧
    decode [0x6E] = .ok (.subR2R3, []) ∧
    decode [0x6F] = .ok (.negR3, []) :=
  ⟨rfl, rfl, rfl, rfl, rfl, rfl, rfl, rfl, rfl, rfl, rfl, rfl, rfl, rfl, rfl, rfl⟩

theorem test_decode_row_7 :
    decode [0x70] = .ok (.absR0, []) ∧
    decode [0x71] = .ok (.cmpR1R0, []) ∧
    decode [0x72] = .ok (.cmpR2R0, []) ∧
    decode [0x73] = .ok (.cmpR3R0, []) ∧
    decode [0x74] = .ok (.cmpR0R1, []) ∧
    decode [0x75] = .ok (.absR1, []) ∧
    decode [0x76] = .ok (.cmpR2R1, []) ∧
    decode [0x77] = .ok (.cmpR3R1, []) ∧
    decode [0x78] = .ok (.cmpR0R2, []) ∧
    decode [0x79] = .ok (.cmpR1R2, []) ∧
    decode [0x7A] = .ok (.absR2, []) ∧
    decode [0x7B] = .ok (.cmpR3R2, []) ∧
    decode [0x7C] = .ok (.cmpR0R3, []) ∧
    decode [0x7D] = .ok (.cmpR1R3, []) ∧
    decode [0x7E] = .ok (.cmpR2R3, []) ∧
    decode [0x7F] = .ok (.absR3, []) :=
  ⟨rfl, rfl, rfl, rfl, rfl, rfl, rfl, rfl, rfl, rfl, rfl, rfl, rfl, rfl, rfl, rfl⟩

theorem test_decode_row_8 :
    decode [0x80] = .ok (.ldwR0IndR2, []) ∧
    decode [0x81] = .ok (.ldwR1IndR2, []) ∧
    decode [0x82] = .ok (.ldwR0IndR3, []) ∧
    decode [0x83] = .ok (.ldwR1IndR3, []) ∧
    decode [0x84] = .ok (.ldbR0IndR2, []) ∧
    decode [0x85] = .ok (.ldbR1IndR2, []) ∧
    decode [0x86] = .ok (.ldbR0IndR3, []) ∧
    decode [0x87] = .ok (.ldbR1IndR3, []) ∧
    decode [0x88] = .ok (.stwIndR2R0, []) ∧
    decode [0x89] = .ok (.stwIndR2R1, []) ∧
    decode [0x8A] = .ok (.stwIndR3R0, []) ∧
    decode [0x8B] = .ok (.stwIndR3R1, []) ∧
    decode [0x8C] = .ok (.stbIndR2R0, []) ∧
    decode [0x8D] = .ok (.stbIndR2R1, []) ∧
    decode [0x8E] = .ok (.stbIndR3R0, []) ∧
    decode [0x8F] = .ok (.stbIndR3R1, []) :=
  ⟨rfl, rfl, rfl, rfl, rfl, rfl, rfl, rfl, rfl, rfl, rfl, rfl, rfl, rfl, rfl, rfl⟩

theorem test_decode_row_9 :
    decode [0x90] = .ok (.ldwR0IncR2, []) ∧
    decode [0x91] = .ok (.ldwR1IncR2, []) ∧
    decode [0x92] = .ok (.ldwR0IncR3, []) ∧
    decode [0x93] = .ok (.ldwR1IncR3, []) ∧
    decode [0x94] = .ok (.ldbR0IncR2, []) ∧
    decode [0x95] = .ok (.ldbR1IncR2, []) ∧
    decode [0x96] = .ok (.ldbR0IncR3, []) ∧
    decode [0x97] = .ok (.ldbR1IncR3, []) ∧
    decode [0x98] = .ok (.stwIncR2R0, []) ∧
    decode [0x99] = .ok (.stwIncR2R1, []) ∧
    decode [0x9A] = .ok (.stwIncR3R0, []) ∧
    decode [0x9B] = .ok (.stwIncR3R1, []) ∧
    decode [0x9C] = .ok (.stbIncR2R0, []) ∧
    decode [0x9D] = .ok (.stbIncR2R1, []) ∧
    decode [0x9E] = .ok (.stbIncR3R0, []) ∧
    decode [0x9F] = .ok (.stbIncR3R1, []) :=
  ⟨rfl, rfl, rfl, rfl, rfl, rfl, rfl, rfl, rfl, rfl, rfl, rfl, rfl, rfl, rfl, rfl⟩

theorem test_decode_row_A :
    decode [0xA0, 0x7C] = .ok (.ldwR0Sp 0x7C, []) ∧
    decode [0xA1, 0x7D] = .ok (.ldwR1Sp 0x7D, []) ∧
    decode [0xA2, 0x7E] = .ok (.ldwR2Sp 0x7E, []) ∧
    decode [0xA3, 0x7F] = .ok (.ldwR3Sp 0x7F, []) ∧
    decode [0xA4, 0x80] = .ok (.ldbR0Sp 0x80, []) ∧
    decode [0xA5, 0x81] = .ok (.ldbR1Sp 0x81, []) ∧
    decode [0xA6, 0x82] = .ok (.ldbR2Sp 0x82, []) ∧
    decode [0xA7, 0x83] = .ok (.ldbR3Sp 0x83, []) ∧
    decode [0xA8, 0x84] = .ok (.stwSpR0 0x84, []) ∧
    decode [0xA9, 0x85] = .ok (.stwSpR1 0x85, []) ∧
    decode [0xAA, 0x86] = .ok (.stwSpR2 0x86, []) ∧
    decode [0xAB, 0x87] = .ok (.stwSpR3 0x87, []) ∧
    decode [0xAC, 0x88] = .ok (.stbSpR0 0x88, []) ∧
    decode [0xAD, 0x89] = .ok (.stbSpR1 0x89, []) ∧
    decode [0xAE, 0x8A] = .ok (.stbSpR2 0x8A, []) ∧
    decode [0xAF, 0x8B] = .ok (.stbSpR3 0x8B, []) :=
  ⟨rfl, rfl, rfl, rfl, rfl, rfl, rfl, rfl, rfl, rfl, rfl, rfl, rfl, rfl, rfl, rfl⟩

theorem test_decode_row_B :
    decode [0xB0, 0x34, 0x12] = .ok (.ldwR0Abs 0x1234, []) ∧
    decode [0xB1, 0x35, 0x12] = .ok (.ldwR1Abs 0x1235, []) ∧
    decode [0xB2, 0x36, 0x12] = .ok (.ldwR2Abs 0x1236, []) ∧
    decode [0xB3, 0x37, 0x12] = .ok (.ldwR3Abs 0x1237, []) ∧
    decode [0xB4, 0x38, 0x12] = .ok (.ldbR0Abs 0x1238, []) ∧
    decode [0xB5, 0x39, 0x12] = .ok (.ldbR1Abs 0x1239, []) ∧
    decode [0xB6, 0x3A, 0x12] = .ok (.ldbR2Abs 0x123A, []) ∧
    decode [0xB7, 0x3B, 0x12] = .ok (.ldbR3Abs 0x123B, []) ∧
    decode [0xB8, 0x3C, 0x12] = .ok (.stwAbsR0 0x123C, []) ∧
    decode [0xB9, 0x3D, 0x12] = .ok (.stwAbsR1 0x123D, []) ∧
    decode [0xBA, 0x3E, 0x12] = .ok (.stwAbsR2 0x123E, []) ∧
    decode [0xBB, 0x3F, 0x12] = .ok (.stwAbsR3 0x123F, []) ∧
    decode [0xBC, 0x40, 0x12] = .ok (.stbAbsR0 0x1240, []) ∧
    decode [0xBD, 0x41, 0x12] = .ok (.stbAbsR1 0x1241, []) ∧
    decode [0xBE, 0x42, 0x12] = .ok (.stbAbsR2 0x1242, []) ∧
    decode [0xBF, 0x43, 0x12] = .ok (.stbAbsR3 0x1243, []) :=
  ⟨rfl, rfl, rfl, rfl, rfl, rfl, rfl, rfl, rfl, rfl, rfl, rfl, rfl, rfl, rfl, rfl⟩

theorem test_decode_row_C :
    decode [0xC0] = .ok (.popR0, []) ∧
    decode [0xC1] = .ok (.popR1, []) ∧
    decode [0xC2] = .ok (.popR2, []) ∧
    decode [0xC3] = .ok (.popR3, []) ∧
    decode [0xC4] = .ok (.popPs, []) ∧
    decode [0xC5] = .ok (.nopC5, []) ∧
    decode [0xC6] = .ok (.ret, []) ∧
    decode [0xC7] = .ok (.reti, []) ∧
    decode [0xC8] = .ok (.pushR0, []) ∧
    decode [0xC9] = .ok (.pushR1, []) ∧
    decode [0xCA] = .ok (.pushR2, []) ∧
    decode [0xCB] = .ok (.pushR3, []) ∧
    decode [0xCC] = .ok (.pushPs, []) ∧
    decode [0xCD, 0x89] = .ok (.trap 0x89, []) ∧
    decode [0xCE] = .ok (.jsrR0, []) ∧
    decode [0xCF, 0x43, 0x12] = .ok (.jsrAddr 0x1243, []) :=
  ⟨rfl, rfl, rfl, rfl, rfl, rfl, rfl, rfl, rfl, rfl, rfl, rfl, rfl, rfl, rfl, rfl⟩

theorem test_decode_row_D :
    decode [0xD0, 0x34, 0x12] = .ok (.ldwR0Imm 0x1234, []) ∧
    decode [0xD1, 0x35, 0x12] = .ok (.ldwR1Imm 0x1235, []) ∧
    decode [0xD2, 0x36, 0x12] = .ok (.ldwR2Imm 0x1236, []) ∧
    decode [0xD3, 0x37, 0x12] = .ok (.ldwR3Imm 0x1237, []) ∧
    decode [0xD4, 0x80] = .ok (.ldbR0Imm 0x80, []) ∧
    decode [0xD5, 0x81] = .ok (.ldbR1Imm 0x81, []) ∧
    decode [0xD6, 0x82] = .ok (.ldbR2Imm 0x82, []) ∧
    decode [0xD7, 0x83] = .ok (.ldbR3Imm 0x83, []) ∧
    decode [0xD8, 0x24] = .ok (.shiftR0Descr 0x24, []) ∧
    decode [0xD9, 0x3F] = .ok (.shiftR1Descr 0x3F, []) ∧
    decode [0xDA, 0x64] = .ok (.shiftR2Descr 0x64, []) ∧
    decode [0xDB, 0xE8] = .ok (.shiftR3Descr 0xE8, []) ∧
    decode [0xDC, 0x03] = .ok (.bitR0Descr 0x03, []) ∧
    decode [0xDD, 0xD3] = .ok (.bitR1Descr 0xD3, []) ∧
    decode [0xDE, 0x50] = .ok (.bitR2Descr 0x50, []) ∧
    decode [0xDF, 0xE4] = .ok (.bitR3Descr 0xE4, []) :=
  ⟨rfl, rfl, rfl, rfl, rfl, rfl, rfl, rfl, rfl, rfl, rfl, rfl, rfl, rfl, rfl, rfl⟩

theorem test_decode_row_E :
    decode [0xE0, 0x7C] = .ok (.bcc 0x7C, []) ∧
    decode [0xE1, 0x7D] = .ok (.bcs 0x7D, []) ∧
    decode [0xE2, 0x7E] = .ok (.bne 0x7E, []) ∧
    decode [0xE3, 0x7F] = .ok (.beq 0x7F, []) ∧
    decode [0xE4, 0x80] = .ok (.bvc 0x80, []) ∧
    decode [0xE5, 0x81] = .ok (.bvs 0x81, []) ∧
    decode [0xE6, 0x82] = .ok (.bpl 0x82, []) ∧
    decode [0xE7, 0x83] = .ok (.bmi 0x83, []) ∧
    decode [0xE8, 0x84] = .ok (.bge 0x84, []) ∧
    decode [0xE9, 0x85] = .ok (.blt 0x85, []) ∧
    decode [0xEA, 0x86] = .ok (.bgt 0x86, []) ∧
    decode [0xEB, 0x87] = .ok (.ble 0x87, []) ∧
    decode [0xEC, 0x88] = .ok (.buc 0x88, []) ∧
    decode [0xED, 0x89] = .ok (.bus 0x89, []) ∧
    decode [0xEE, 0x8A] = .ok (.bhi 0x8A, []) ∧
    decode [0xEF, 0x8B] = .ok (.bls 0x8B, []) :=
  ⟨rfl, rfl, rfl, rfl, rfl, rfl, rfl, rfl, rfl, rfl, rfl, rfl, rfl, rfl, rfl, rfl⟩

theorem test_decode_row_F :
    decode [0xF0] = .ok (.moveR0Sp, []) ∧
    decode [0xF1] = .ok (.moveSpR0, []) ∧
    decode [0xF2] = .ok (.jmpR0, []) ∧
    decode [0xF3, 0x37, 0x12] = .ok (.jmpAddr 0x1237, []) ∧
    decode [0xF4, 0x80] = .ok (.andiPs 0x80, []) ∧
    decode [0xF5, 0x81] = .ok (.oriPs 0x81, []) ∧
    decode [0xF6, 0x82] = .ok (.addiSp 0x82, []) ∧
    decode [0xF7] = .ok (.sqrt, []) ∧
    decode [0xF8] = .ok (.mulu, []) ∧
    decode [0xF9] = .ok (.muls, []) ∧
    decode [0xFA] = .ok (.divu, []) ∧
    decode [0xFB] = .ok (.divs, []) ∧
    decode [0xFC] = .ok (.addx, []) ∧
    decode [0xFD] = .ok (.subx, []) ∧
    decode [0xFE] = .ok (.negx, []) ∧
    decode [0xFF] = .ok (.nop, []) :=
  ⟨rfl, rfl, rfl, rfl, rfl, rfl, rfl, rfl, rfl, rfl, rfl, rfl, rfl, rfl, rfl, rfl⟩

/-- Two words of each of the 18 descriptor rows, `aa`, `bb` and `nnnn` filled in. -/
theorem test_decode_descriptor_rows :
    decode [0xD8, 0x00] = .ok (.lslImm .r0 0x0, []) ∧
    decode [0xDA, 0x09] = .ok (.lslImm .r2 0x9, []) ∧
    decode [0xD9, 0x15] = .ok (.lsrImm .r1 0x5, []) ∧
    decode [0xDB, 0x1E] = .ok (.lsrImm .r3 0xE, []) ∧
    decode [0xDA, 0x23] = .ok (.lsReg .r2 .r3, []) ∧
    decode [0xD8, 0x20] = .ok (.lsReg .r0 .r0, []) ∧
    decode [0xDB, 0x4F] = .ok (.aslImm .r3 0xF, []) ∧
    decode [0xD9, 0x48] = .ok (.aslImm .r1 0x8, []) ∧
    decode [0xD8, 0x54] = .ok (.asrImm .r0 0x4, []) ∧
    decode [0xDA, 0x5D] = .ok (.asrImm .r2 0xD, []) ∧
    decode [0xD9, 0x60] = .ok (.asReg .r1 .r0, []) ∧
    decode [0xDB, 0x61] = .ok (.asReg .r3 .r1, []) ∧
    decode [0xDA, 0x8E] = .ok (.rolImm .r2 0xE, []) ∧
    decode [0xD8, 0x87] = .ok (.rolImm .r0 0x7, []) ∧
    decode [0xDB, 0x93] = .ok (.rorImm .r3 0x3, []) ∧
    decode [0xD9, 0x9C] = .ok (.rorImm .r1 0xC, []) ∧
    decode [0xD8, 0xA1] = .ok (.roReg .r0 .r1, []) ∧
    decode [0xDA, 0xA2] = .ok (.roReg .r2 .r2, []) ∧
    decode [0xD9, 0xCD] = .ok (.roxlImm .r1 0xD, []) ∧
    decode [0xDB, 0xC6] = .ok (.roxlImm .r3 0x6, []) ∧
    decode [0xDA, 0xD2] = .ok (.roxrImm .r2 0x2, []) ∧
    decode [0xD8, 0xDB] = .ok (.roxrImm .r0 0xB, []) ∧
    decode [0xDB, 0xE2] = .ok (.roxReg .r3 .r2, []) ∧
    decode [0xD9, 0xE3] = .ok (.roxReg .r1 .r3, []) ∧
    decode [0xDC, 0x4C] = .ok (.bchgImm .r0 0xC, []) ∧
    decode [0xDE, 0x45] = .ok (.bchgImm .r2 0x5, []) ∧
    decode [0xDD, 0x60] = .ok (.bchgReg .r1 .r0, []) ∧
    decode [0xDF, 0x61] = .ok (.bchgReg .r3 .r1, []) ∧
    decode [0xDE, 0x86] = .ok (.bclrImm .r2 0x6, []) ∧
    decode [0xDC, 0x8F] = .ok (.bclrImm .r0 0xF, []) ∧
    decode [0xDF, 0xA2] = .ok (.bclrReg .r3 .r2, []) ∧
    decode [0xDD, 0xA3] = .ok (.bclrReg .r1 .r3, []) ∧
    decode [0xDC, 0xC0] = .ok (.bsetImm .r0 0x0, []) ∧
    decode [0xDE, 0xC9] = .ok (.bsetImm .r2 0x9, []) ∧
    decode [0xDD, 0xE0] = .ok (.bsetReg .r1 .r0, []) ∧
    decode [0xDF, 0xE1] = .ok (.bsetReg .r3 .r1, []) :=
  ⟨rfl, rfl, rfl, rfl, rfl, rfl, rfl, rfl, rfl, rfl, rfl, rfl, rfl, rfl, rfl, rfl, rfl, rfl, rfl, rfl, rfl, rfl, rfl, rfl, rfl, rfl, rfl, rfl, rfl, rfl, rfl, rfl, rfl, rfl, rfl, rfl⟩

/-- Lists that hold no whole instruction are rejected by name (R91). -/
theorem test_decode_rejects_short_lists :
    decode [] = .error .noBytes ∧ decode [0xB0, 0x34] = .error (.truncated 0xB0) ∧ decode [0xD8] = .error (.truncated 0xD8) :=
  ⟨rfl, rfl, rfl⟩

/-- The decoder leaves the bytes after the instruction (R112). -/
theorem test_decode_leaves_the_rest : decode [0xCD, 0x07, 0xFF] = .ok (.trap 0x07, [0xFF]) := rfl

/-- Opcode table words as spec/opcode_table.json numbers them: the opcode in bits 7:0 of a first-byte row, in bits 15:8 of
a descriptor row (log 11). -/
theorem test_table_words :
    decodeTableWord 8 0x41 = some .addR1R0 ∧ decodeTableWord 24 0x1234B0 = some (.ldwR0Abs 0x1234) ∧
    decodeTableWord 8 0xCF = some (.jsrAddr 0x0000) ∧ decodeTableWord 16 0xDDA2 = some (.bclrReg .r1 .r2) ∧
    decodeTableWord 16 0xD910 = some (.lsrImm .r1 0x0) ∧ decodeTableWord 8 0xDC = some (.bitR0Descr 0x00) ∧
    decodeTableWord 0 0 = none ∧ decodeTableWord 32 0x41 = none :=
  ⟨rfl, rfl, rfl, rfl, rfl, rfl, rfl, rfl⟩

/-! ## WellFormed refuses each ill-formed term -/

theorem test_wellFormed_refuses_shift_r0_descr : (Instr.shiftR0Descr 0x00).wellFormed = false := rfl
theorem test_wellFormed_refuses_shift_r1_descr : (Instr.shiftR1Descr 0x1F).wellFormed = false := rfl
theorem test_wellFormed_refuses_shift_r2_descr : (Instr.shiftR2Descr 0x63).wellFormed = false := rfl
theorem test_wellFormed_refuses_shift_r3_descr : (Instr.shiftR3Descr 0xE0).wellFormed = false := rfl
theorem test_wellFormed_refuses_bit_r0_descr : (Instr.bitR0Descr 0x40).wellFormed = false := rfl
theorem test_wellFormed_refuses_bit_r1_descr : (Instr.bitR1Descr 0x8F).wellFormed = false := rfl
theorem test_wellFormed_refuses_bit_r2_descr : (Instr.bitR2Descr 0xE3).wellFormed = false := rfl
theorem test_wellFormed_refuses_bit_r3_descr : (Instr.bitR3Descr 0xC0).wellFormed = false := rfl

/-- A raw descriptor form with a reserved descriptor is well-formed (R110, log 10). -/
theorem test_wellFormed_takes_reserved_descriptors :
    (Instr.shiftR0Descr 0x24).wellFormed = true ∧ (Instr.bitR0Descr 0x03).wellFormed = true ∧
    (Instr.bitR0Descr 0xD3).wellFormed = true ∧ (Instr.bitR0Descr 0xE4).wellFormed = true := ⟨rfl, rfl, rfl, rfl⟩

/-! ## One-step vectors of spec/95_test_vectors.md, section 2 -/

/-- The start state of the vectors: four registers, SP, PC, the low byte of PS. -/
def start (x0 x1 x2 x3 sp pc : Word) (ps : Word) : State :=
  { State.reset with
    regs := ⟨x0, x1, x2, x3⟩
    sp := sp
    pc := pc
    ps := Flags.ofImage Config.PsLayout.standard ps }

/-- One step with the instruction's bytes at `pc`: PC, the low byte of PS (unnamed bits 0), and what `f` reads. -/
def after (bytes : List Byte) (s : State) (f : State → List Word) : Option (Word × Word × List Word) :=
  match step (s.putBytes s.pc bytes) with
  | .next t => some (t.pc, t.ps.image Config.PsLayout.standard 0#16, f t)
  | .fault _ => none
  | .refused _ => none

/-- One step's refusal. -/
def refusal (bytes : List Byte) (s : State) : Option Refusal :=
  match step (s.putBytes s.pc bytes) with
  | .next _ => none
  | .fault _ => none
  | .refused r => some r

theorem test_A01_sxt_r0 : after [0x00] (start 0x0080 0x0000 0x0000 0x0000 0x8000 0x0100 0x00) (fun t => [t.regs.r0]) =
    some (0x0101, 0x02, [0xFF80]) := by decide
theorem test_A03_sxt_r1 : after [0x05] (start 0x0000 0xAB00 0x0000 0x0000 0x8000 0x0100 0x38) (fun t => [t.regs.r1]) =
    some (0x0101, 0x3C, [0x0000]) := by decide
theorem test_A05_move_r1_r0 : after [0x01] (start 0x8001 0x1111 0x0000 0x0000 0x8000 0x0100 0x38) (fun t => [t.regs.r1]) =
    some (0x0101, 0x3A, [0x8001]) := by decide
theorem test_A07_move_r0_r1 : after [0x04] (start 0x1111 0x2222 0x0000 0x0000 0x8000 0x0100 0x00) (fun t => [t.regs.r0]) =
    some (0x0101, 0x00, [0x2222]) := by decide
theorem test_A08_test_r0 : after [0x10] (start 0x8000 0x0000 0x0000 0x0000 0x8000 0x0100 0x3C) (fun _ => []) =
    some (0x0101, 0x3A, []) := by decide
theorem test_A09_test_r3 : after [0x1F] (start 0x0000 0x0000 0x0000 0x0000 0x8000 0x0100 0x02) (fun _ => []) =
    some (0x0101, 0x04, []) := by decide
theorem test_A10_and_r1_r0 : after [0x11] (start 0x0F0F 0xFF00 0x0000 0x0000 0x8000 0x0100 0x00) (fun t => [t.regs.r1]) =
    some (0x0101, 0x00, [0x0F00]) := by decide
theorem test_A13_xor_r1_r1_clr_r1 : after [0x25] (start 0x0000 0x1234 0x0000 0x0000 0x8000 0x0100 0x3A) (fun t => [t.regs.r1]) =
    some (0x0101, 0x3C, [0x0000]) := by decide
theorem test_A12_xor_r1_r0 : after [0x21] (start 0xFFFF 0x00FF 0x0000 0x0000 0x8000 0x0100 0x00) (fun t => [t.regs.r1]) =
    some (0x0101, 0x02, [0xFF00]) := by decide
theorem test_A15_inv_r0 : after [0x30] (start 0x00FF 0x0000 0x0000 0x0000 0x8000 0x0100 0x00) (fun t => [t.regs.r0]) =
    some (0x0101, 0x02, [0xFF00]) := by decide
theorem test_A17_or_r1_r0 : after [0x31] (start 0x8000 0x0001 0x0000 0x0000 0x8000 0x0100 0x00) (fun t => [t.regs.r1]) =
    some (0x0101, 0x02, [0x8001]) := by decide
theorem test_A19_add_r1_r0 : after [0x41] (start 0x0001 0x7FFF 0x0000 0x0000 0x8000 0x0100 0x00) (fun t => [t.regs.r1]) =
    some (0x0101, 0x0A, [0x8000]) := by decide
theorem test_A20_add_r1_r0 : after [0x41] (start 0x0001 0xFFFF 0x0000 0x0000 0x8000 0x0100 0x00) (fun t => [t.regs.r1]) =
    some (0x0101, 0x34, [0x0000]) := by decide
theorem test_A21_add_r0_r0 : after [0x40] (start 0x8000 0x0000 0x0000 0x0000 0x8000 0x0100 0x00) (fun t => [t.regs.r0]) =
    some (0x0101, 0x3C, [0x0000]) := by decide
theorem test_A23_addq_r0_2 : after [0x50] (start 0xFFFF 0x0000 0x0000 0x0000 0x8000 0x0100 0x00) (fun t => [t.regs.r0]) =
    some (0x0101, 0x30, [0x0001]) := by decide
theorem test_A24_addq_r1_1_inc_r1 : after [0x55] (start 0x0000 0x7FFF 0x0000 0x0000 0x8000 0x0100 0x00) (fun t => [t.regs.r1]) =
    some (0x0101, 0x0A, [0x8000]) := by decide
theorem test_A26_addq_r3_1_dec_r3 : after [0x5F] (start 0x0000 0x0000 0x0000 0x0001 0x8000 0x0100 0x00) (fun t => [t.regs.r3]) =
    some (0x0101, 0x34, [0x0000]) := by decide
theorem test_A28_addq_r2_2 : after [0x5A] (start 0x0000 0x0000 0x0001 0x0000 0x8000 0x0100 0x00) (fun t => [t.regs.r2]) =
    some (0x0101, 0x02, [0xFFFF]) := by decide
theorem test_A29_sub_r1_r0 : after [0x61] (start 0x0001 0x0000 0x0000 0x0000 0x8000 0x0100 0x00) (fun t => [t.regs.r1]) =
    some (0x0101, 0x32, [0xFFFF]) := by decide
theorem test_A32_sub_r0_r1 : after [0x64] (start 0x7FFF 0xFFFF 0x0000 0x0000 0x8000 0x0100 0x00) (fun t => [t.regs.r0]) =
    some (0x0101, 0x3A, [0x8000]) := by decide
theorem test_A34_neg_r0 : after [0x60] (start 0x8000 0x0000 0x0000 0x0000 0x8000 0x0100 0x00) (fun _ => []) =
    some (0x0101, 0x3A, []) := by decide
theorem test_A35_neg_r1 : after [0x65] (start 0x0000 0x0001 0x0000 0x0000 0x8000 0x0100 0x00) (fun t => [t.regs.r1]) =
    some (0x0101, 0x32, [0xFFFF]) := by decide
theorem test_A36_abs_r0 : after [0x70] (start 0x8000 0x0000 0x0000 0x0000 0x8000 0x0100 0x30) (fun _ => []) =
    some (0x0101, 0x3A, []) := by decide
theorem test_A38_abs_r2 : after [0x7A] (start 0x0000 0x0000 0x0005 0x0000 0x8000 0x0100 0x0A) (fun _ => []) =
    some (0x0101, 0x00, []) := by decide
theorem test_A40_cmp_r1_r0 : after [0x71] (start 0x0007 0x0007 0x0000 0x0000 0x8000 0x0100 0x10) (fun _ => []) =
    some (0x0101, 0x14, []) := by decide
theorem test_A43_cmp_r0_r1 : after [0x74] (start 0x7FFF 0xFFFF 0x0000 0x0000 0x8000 0x0100 0x00) (fun _ => []) =
    some (0x0101, 0x2A, []) := by decide
theorem test_M01_ld_w_r0_r2 : after [0x80] ((start 0x0000 0x0000 0x2000 0x0000 0x8000 0x0100 0x00).putBytes 0x2000 [0x34, 0x12, 0x80, 0xFF]) (fun t => [t.regs.r0]) =
    some (0x0101, 0x00, [0x1234]) := by decide
theorem test_M03_ld_w_r0_r3 : after [0x82] (((start 0x0000 0x0000 0x0000 0xFFFF 0x8000 0x0200 0x00).putBytes 0xFFFF [0x11]).putBytes 0x0000 [0x22]) (fun t => [t.regs.r0]) =
    some (0x0201, 0x00, [0x2211]) := by decide
theorem test_M04_ld_b_r0_r2 : after [0x84] ((start 0xAAAA 0x0000 0x2002 0x0000 0x8000 0x0100 0x00).putBytes 0x2000 [0x34, 0x12, 0x80, 0xFF]) (fun t => [t.regs.r0]) =
    some (0x0101, 0x00, [0x0080]) := by decide
theorem test_M07_st_w_r3_r1 : after [0x8B] (start 0x0000 0xCAFE 0x0000 0xFFFF 0x8000 0x0200 0x00) (fun t => [zext16 (t.byte 0xFFFF), zext16 (t.byte 0x0000)]) =
    some (0x0201, 0x00, [0xFE, 0xCA]) := by decide
theorem test_M08_st_b_r2_r0 : after [0x8C] (start 0x1234 0x0000 0x3000 0x0000 0x8000 0x0100 0x00) (fun t => [zext16 (t.byte 0x3000)]) =
    some (0x0101, 0x00, [0x34]) := by decide
theorem test_M11_ld_w_r0_r3 : after [0x92] (((start 0x0000 0x0000 0x0000 0xFFFF 0x8000 0x0200 0x00).putBytes 0xFFFF [0x11]).putBytes 0x0000 [0x22]) (fun t => [t.regs.r0, t.regs.r3]) =
    some (0x0201, 0x00, [0x2211, 0x0001]) := by decide
theorem test_M13_ld_b_r1_r3 : after [0x97] (start 0x0000 0x5555 0x0000 0xFFFF 0x8000 0x0200 0x00) (fun t => [t.regs.r1, t.regs.r3]) =
    some (0x0201, 0x04, [0x0000, 0x0000]) := by decide
theorem test_M15_st_w_r3_r1 : after [0x9B] (start 0x0000 0xCAFE 0x0000 0xFFFE 0x8000 0x0200 0x00) (fun t => [t.regs.r3, zext16 (t.byte 0xFFFE), zext16 (t.byte 0xFFFF)]) =
    some (0x0201, 0x00, [0x0000, 0xFE, 0xCA]) := by decide
theorem test_M16_st_b_r2_r0 : after [0x9C] (start 0x12FF 0x0000 0x3000 0x0000 0x8000 0x0100 0x00) (fun t => [t.regs.r2, zext16 (t.byte 0x3000)]) =
    some (0x0101, 0x00, [0x3001, 0xFF]) := by decide
theorem test_M19_ld_w_r0_sp_255 : after [0xA0, 0xFF] ((start 0x0000 0x0000 0x0000 0x0000 0xFF80 0x0100 0x00).putBytes 0x007F [0x55, 0x66]) (fun t => [t.regs.r0]) =
    some (0x0102, 0x00, [0x6655]) := by decide
theorem test_M20_ld_b_r1_sp_0 : after [0xA5, 0x00] ((start 0x0000 0x0000 0x0000 0x0000 0x7FF0 0x0100 0x00).putBytes 0x7FF0 [0x80]) (fun t => [t.regs.r1]) =
    some (0x0102, 0x00, [0x0080]) := by decide
theorem test_M21_st_w_sp_2_r3 : after [0xAB, 0x02] (start 0x0000 0x0000 0x0000 0x1234 0x7FF0 0x0100 0x00) (fun t => [zext16 (t.byte 0x7FF2), zext16 (t.byte 0x7FF3)]) =
    some (0x0102, 0x00, [0x34, 0x12]) := by decide
theorem test_M22_st_b_sp_255_r2 : after [0xAE, 0xFF] (start 0x0000 0x0000 0xABCD 0x0000 0x7F00 0x0100 0x00) (fun t => [zext16 (t.byte 0x7FFF)]) =
    some (0x0102, 0x00, [0xCD]) := by decide
theorem test_M23_st_w_sp_128_r0 : after [0xA8, 0x80] (start 0x1122 0x0000 0x0000 0x0000 0xFFFF 0x0100 0x00) (fun t => [zext16 (t.byte 0x007F), zext16 (t.byte 0x0080)]) =
    some (0x0102, 0x00, [0x22, 0x11]) := by decide
theorem test_M24_ld_w_r0_0x1234 : after [0xB0, 0x34, 0x12] ((start 0x0000 0x0000 0x0000 0x0000 0x8000 0x0100 0x00).putBytes 0x1234 [0x78, 0x56]) (fun t => [t.regs.r0]) =
    some (0x0103, 0x00, [0x5678]) := by decide
theorem test_M25_ld_b_r0_0x1234 : after [0xB4, 0x34, 0x12] ((start 0xFFFF 0x0000 0x0000 0x0000 0x8000 0x0100 0x00).putBytes 0x1234 [0x78, 0x56]) (fun t => [t.regs.r0]) =
    some (0x0103, 0x00, [0x0078]) := by decide
theorem test_M26_ld_w_r3_0xffff : after [0xB3, 0xFF, 0xFF] (((start 0x0000 0x0000 0x0000 0x0000 0x8000 0x0200 0x00).putBytes 0xFFFF [0x00]).putBytes 0x0000 [0x80]) (fun t => [t.regs.r3]) =
    some (0x0203, 0x02, [0x8000]) := by decide
theorem test_M27_st_w_0x4000_r1 : after [0xB9, 0x00, 0x40] (start 0x0000 0xBEEF 0x0000 0x0000 0x8000 0x0100 0x00) (fun t => [zext16 (t.byte 0x4000), zext16 (t.byte 0x4001)]) =
    some (0x0103, 0x00, [0xEF, 0xBE]) := by decide
theorem test_M28_st_b_0x4000_r2 : after [0xBE, 0x00, 0x40] (start 0x0000 0x0000 0x1280 0x0000 0x8000 0x0100 0x00) (fun t => [zext16 (t.byte 0x4000)]) =
    some (0x0103, 0x00, [0x80]) := by decide
theorem test_S01_push_r0 : after [0xC8] (start 0x1234 0x0000 0x0000 0x0000 0x8000 0x0100 0x00) (fun t => [t.sp, zext16 (t.byte 0x7FFE), zext16 (t.byte 0x7FFF)]) =
    some (0x0101, 0x00, [0x7FFE, 0x34, 0x12]) := by decide
theorem test_S02_push_r3 : after [0xCB] (start 0x0000 0x0000 0x0000 0xBEEF 0x0001 0x0100 0x00) (fun t => [t.sp, zext16 (t.byte 0xFFFF), zext16 (t.byte 0x0000)]) =
    some (0x0101, 0x00, [0xFFFF, 0xEF, 0xBE]) := by decide
theorem test_S04_push_ps : after [0xCC] (start 0x0000 0x0000 0x0000 0x0000 0x8000 0x0100 0xA4) (fun t => [t.sp]) =
    some (0x0101, 0xA4, [0x7FFE]) := by decide
theorem test_S06_pop_r3 : after [0xC3] (((start 0x0000 0x0000 0x0000 0x0000 0xFFFF 0x0200 0x00).putBytes 0xFFFF [0xEF]).putBytes 0x0000 [0xBE]) (fun t => [t.regs.r3, t.sp]) =
    some (0x0201, 0x00, [0xBEEF, 0x0001]) := by decide
theorem test_S07_pop_ps : after [0xC4] ((start 0x0000 0x0000 0x0000 0x0000 0x7FFE 0x0100 0x00).putBytes 0x7FFE [0xFF, 0xFF]) (fun t => [t.sp]) =
    some (0x0101, 0xFE, [0x8000]) := by decide
theorem test_S08_pop_ps : after [0xC4] ((start 0x0000 0x0000 0x0000 0x0000 0x7FFE 0x0100 0xFE).putBytes 0x7FFE [0x01, 0xFF]) (fun t => [t.sp]) =
    some (0x0101, 0x00, [0x8000]) := by decide
theorem test_S09_nop_0xc5 : after [0xC5] (start 0x0000 0x0000 0x0000 0x0000 0x8000 0x0100 0x3A) (fun _ => []) =
    some (0x0101, 0x3A, []) := by decide
theorem test_S10_ret : after [0xC6] ((start 0x0000 0x0000 0x0000 0x0000 0x7FFE 0x5000 0x00).putBytes 0x7FFE [0x03, 0x01]) (fun t => [t.sp]) =
    some (0x0103, 0x00, [0x8000]) := by decide
theorem test_S11_reti : after [0xC7] ((start 0x0000 0x0000 0x0000 0x0000 0x7FFC 0x000C 0xDC).putBytes 0x7FFC [0x22, 0x00, 0x02, 0x01]) (fun t => [t.sp]) =
    some (0x0102, 0x22, [0x8000]) := by decide
theorem test_S12_trap_7 : after [0xCD, 0x07] (start 0x0000 0x0000 0x0000 0x0000 0x8000 0x0100 0x22) (fun t => [t.sp]) =
    some (0x000C, 0x22, [0x7FFC]) := by decide
theorem test_S13_trap_7 : after [0xCD, 0x07] { start 0x0000 0x0000 0x0000 0x0000 0x8000 0x0100 0x22 with params := { Config.Params.standard with vectorBase := .high } } (fun t => [t.sp]) =
    some (0xFFFC, 0x22, [0x7FFC]) := by decide
theorem test_S14_jsr_r0 : after [0xCE] (start 0x5000 0x0000 0x0000 0x0000 0x8000 0x0100 0x00) (fun t => [t.sp, zext16 (t.byte 0x7FFE), zext16 (t.byte 0x7FFF)]) =
    some (0x5000, 0x00, [0x7FFE, 0x01, 0x01]) := by decide
theorem test_S15_jsr_0x5000 : after [0xCF, 0x00, 0x50] (start 0x0000 0x0000 0x0000 0x0000 0x8000 0x0100 0x00) (fun t => [t.sp, zext16 (t.byte 0x7FFE), zext16 (t.byte 0x7FFF)]) =
    some (0x5000, 0x00, [0x7FFE, 0x03, 0x01]) := by decide
theorem test_S16_jsr_0x5000 : after [0xCF, 0x00, 0x50] (start 0x0000 0x0000 0x0000 0x0000 0x8000 0xFFFE 0x00) (fun t => [t.sp, zext16 (t.byte 0x7FFE), zext16 (t.byte 0x7FFF)]) =
    some (0x5000, 0x00, [0x7FFE, 0x01, 0x00]) := by decide
theorem test_I02_ld_w_r3_0x8000 : after [0xD3, 0x00, 0x80] (start 0x0000 0x0000 0x0000 0x0000 0x8000 0x0100 0x3C) (fun t => [t.regs.r3]) =
    some (0x0103, 0x3A, [0x8000]) := by decide
theorem test_I04_ld_b_r0_0xff : after [0xD4, 0xFF] (start 0xAAAA 0x0000 0x0000 0x0000 0x8000 0x0100 0x00) (fun t => [t.regs.r0]) =
    some (0x0102, 0x00, [0x00FF]) := by decide
theorem test_I07_lsl_r0_15 : after [0xD8, 0x0F] (start 0x0003 0x0000 0x0000 0x0000 0x8000 0x0100 0x00) (fun t => [t.regs.r0]) =
    some (0x0102, 0x22, [0x8000]) := by decide
theorem test_I08_lsr_r0_1 : after [0xD8, 0x1F] (start 0x8001 0x0000 0x0000 0x0000 0x8000 0x0100 0x00) (fun t => [t.regs.r0]) =
    some (0x0102, 0x20, [0x4000]) := by decide
theorem test_I09_lsr_r1_16 : after [0xD9, 0x10] (start 0x0000 0x8000 0x0000 0x0000 0x8000 0x0100 0x00) (fun t => [t.regs.r1]) =
    some (0x0102, 0x24, [0x0000]) := by decide
theorem test_I11_lsl_r2_0 : after [0xDA, 0x00] (start 0x0000 0x0000 0x8000 0x0000 0x8000 0x0100 0x24) (fun _ => []) =
    some (0x0102, 0x22, []) := by decide
theorem test_I12_asl_r0_1 : after [0xD8, 0x41] (start 0x4000 0x0000 0x0000 0x0000 0x8000 0x0100 0x00) (fun t => [t.regs.r0]) =
    some (0x0102, 0x02, [0x8000]) := by decide
theorem test_I15_asr_r0_16 : after [0xD8, 0x50] (start 0x8000 0x0000 0x0000 0x0000 0x8000 0x0100 0x00) (fun t => [t.regs.r0]) =
    some (0x0102, 0x22, [0xFFFF]) := by decide +kernel
theorem test_I17_asr_r0_15 : after [0xD8, 0x51] (start 0x4000 0x0000 0x0000 0x0000 0x8000 0x0100 0x00) (fun t => [t.regs.r0]) =
    some (0x0102, 0x24, [0x0000]) := by decide +kernel
theorem test_I19_rol_r0_4 : after [0xD8, 0x84] (start 0x1234 0x0000 0x0000 0x0000 0x8000 0x0100 0x00) (fun t => [t.regs.r0]) =
    some (0x0102, 0x20, [0x2341]) := by decide
theorem test_I22_ror_r0_16 : after [0xD8, 0x90] (start 0x8234 0x0000 0x0000 0x0000 0x8000 0x0100 0x00) (fun _ => []) =
    some (0x0102, 0x22, []) := by decide +kernel
theorem test_I20_ror_r0_1 : after [0xD8, 0x9F] (start 0x8001 0x0000 0x0000 0x0000 0x8000 0x0100 0x00) (fun t => [t.regs.r0]) =
    some (0x0102, 0x22, [0xC000]) := by decide
theorem test_I25_roxl_r0_1 : after [0xD8, 0xC1] (start 0x8000 0x0000 0x0000 0x0000 0x8000 0x0100 0x10) (fun t => [t.regs.r0]) =
    some (0x0102, 0x34, [0x0000]) := by decide
theorem test_I27_roxl_r3_15 : after [0xDB, 0xCF] (start 0x0000 0x0000 0x0000 0x1234 0x8000 0x0100 0x20) (fun t => [t.regs.r3]) =
    some (0x0102, 0x00, [0x448D]) := by decide
theorem test_I28_roxr_r0_1 : after [0xD8, 0xDF] (start 0x0002 0x0000 0x0000 0x0000 0x8000 0x0100 0x20) (fun t => [t.regs.r0]) =
    some (0x0102, 0x02, [0x8001]) := by decide
theorem test_I30_roxr_r0_16 : after [0xD8, 0xD0] (start 0x1234 0x0000 0x0000 0x0000 0x8000 0x0100 0x20) (fun t => [t.regs.r0]) =
    some (0x0102, 0x00, [0x2469]) := by decide
theorem test_I33_lsl_lsr_r0_r1 : after [0xD8, 0x21] (start 0xFFFF 0xFFF0 0x0000 0x0000 0x8000 0x0100 0x00) (fun t => [t.regs.r0]) =
    some (0x0102, 0x24, [0x0000]) := by decide
theorem test_I35_asl_r2_r2 : after [0xDA, 0x62] (start 0x0000 0x0000 0x0002 0x0000 0x8000 0x0100 0x00) (fun t => [t.regs.r2]) =
    some (0x0102, 0x00, [0x0008]) := by decide
theorem test_I36_asr_r0_r1 : after [0xD8, 0x61] (start 0x8000 0xFFFC 0x0000 0x0000 0x8000 0x0100 0x00) (fun t => [t.regs.r0]) =
    some (0x0102, 0x02, [0xF800]) := by decide
theorem test_I37_rol_r1_r0 : after [0xD9, 0xA0] (start 0x0004 0x1234 0x0000 0x0000 0x8000 0x0100 0x00) (fun t => [t.regs.r1]) =
    some (0x0102, 0x20, [0x2341]) := by decide
theorem test_I38_roxr_r1_r0 : after [0xD9, 0xE0] (start 0xFFFF 0x0001 0x0000 0x0000 0x8000 0x0100 0x20) (fun t => [t.regs.r1]) =
    some (0x0102, 0x22, [0x8000]) := by decide
theorem test_I39_refused : refusal [0xD8, 0x24] (start 0x0001 0x0001 0x0000 0x0000 0x8000 0x0100 0x00) = some .reservedShiftDescriptor := by decide
theorem test_I40_bset_r0_3 : after [0xDC, 0xC3] (start 0x0000 0x0000 0x0000 0x0000 0x8000 0x0100 0x00) (fun t => [t.regs.r0]) =
    some (0x0102, 0x00, [0x0008]) := by decide
theorem test_I43_bclr_r1_r2 : after [0xDD, 0xA2] (start 0x0000 0xFFFF 0xFFF4 0x0000 0x8000 0x0100 0x00) (fun t => [t.regs.r1]) =
    some (0x0102, 0x02, [0xFFEF]) := by decide
theorem test_I44_bclr_r1_0 : after [0xDD, 0x80] (start 0x0000 0x0001 0x0000 0x0000 0x8000 0x0100 0x00) (fun t => [t.regs.r1]) =
    some (0x0102, 0x04, [0x0000]) := by decide
theorem test_I46_bchg_r3_15 : after [0xDF, 0x4F] (start 0x0000 0x0000 0x0000 0x8000 0x8000 0x0100 0x00) (fun t => [t.regs.r3]) =
    some (0x0102, 0x04, [0x0000]) := by decide
theorem test_I48_bset_r2_r2 : after [0xDE, 0xE2] (start 0x0000 0x0000 0x0004 0x0000 0x8000 0x0100 0x00) (fun t => [t.regs.r2]) =
    some (0x0102, 0x00, [0x0014]) := by decide
theorem test_I49_bchg_r2_r2 : after [0xDE, 0x62] (start 0x0000 0x0000 0x0004 0x0000 0x8000 0x0100 0x00) (fun t => [t.regs.r2]) =
    some (0x0102, 0x00, [0x0014]) := by decide
theorem test_I50_refused : refusal [0xDC, 0x03] (start 0x0000 0x0000 0x0000 0x0000 0x8000 0x0100 0x00) = some .reservedBitDescriptor := by decide
theorem test_I52_refused : refusal [0xDC, 0xE4] (start 0x0000 0x0000 0x0000 0x0000 0x8000 0x0100 0x00) = some .reservedBitDescriptor := by decide
theorem test_B01_bcc_2 : after [0xE0, 0xFE] (start 0x0000 0x0000 0x0000 0x0000 0x8000 0x0100 0x00) (fun _ => []) =
    some (0x0100, 0x00, []) := by decide
theorem test_B04_bcs_16 : after [0xE1, 0x10] (start 0x0000 0x0000 0x0000 0x0000 0x8000 0xFFF8 0x20) (fun _ => []) =
    some (0x000A, 0x20, []) := by decide
theorem test_B05_bne_4 : after [0xE2, 0xFC] (start 0x0000 0x0000 0x0000 0x0000 0x8000 0x0003 0x00) (fun _ => []) =
    some (0x0001, 0x00, []) := by decide
theorem test_B08_beq_128 : after [0xE3, 0x80] (start 0x0000 0x0000 0x0000 0x0000 0x8000 0x0100 0x04) (fun _ => []) =
    some (0x0082, 0x04, []) := by decide
theorem test_B09_bvc_5 : after [0xE4, 0x05] (start 0x0000 0x0000 0x0000 0x0000 0x8000 0x0100 0x08) (fun _ => []) =
    some (0x0102, 0x08, []) := by decide
theorem test_B10_bvs_5 : after [0xE5, 0x05] (start 0x0000 0x0000 0x0000 0x0000 0x8000 0x0100 0x08) (fun _ => []) =
    some (0x0107, 0x08, []) := by decide
theorem test_B11_bpl_5 : after [0xE6, 0x05] (start 0x0000 0x0000 0x0000 0x0000 0x8000 0x0100 0x02) (fun _ => []) =
    some (0x0102, 0x02, []) := by decide
theorem test_B12_bmi_16 : after [0xE7, 0xF0] (start 0x0000 0x0000 0x0000 0x0000 0x8000 0x0004 0x02) (fun _ => []) =
    some (0xFFF6, 0x02, []) := by decide
theorem test_B13_bge_5 : after [0xE8, 0x05] (start 0x0000 0x0000 0x0000 0x0000 0x8000 0x0100 0x0A) (fun _ => []) =
    some (0x0107, 0x0A, []) := by decide
theorem test_B15_blt_5 : after [0xE9, 0x05] (start 0x0000 0x0000 0x0000 0x0000 0x8000 0x0100 0x08) (fun _ => []) =
    some (0x0107, 0x08, []) := by decide
theorem test_B17_bgt_5 : after [0xEA, 0x05] (start 0x0000 0x0000 0x0000 0x0000 0x8000 0x0100 0x04) (fun _ => []) =
    some (0x0102, 0x04, []) := by decide
theorem test_B18_ble_5 : after [0xEB, 0x05] (start 0x0000 0x0000 0x0000 0x0000 0x8000 0x0100 0x04) (fun _ => []) =
    some (0x0107, 0x04, []) := by decide
theorem test_B20_buc_5 : after [0xEC, 0x05] (start 0x0000 0x0000 0x0000 0x0000 0x8000 0x0100 0x80) (fun _ => []) =
    some (0x0102, 0x80, []) := by decide
theorem test_B21_bus_5 : after [0xED, 0x05] (start 0x0000 0x0000 0x0000 0x0000 0x8000 0x0100 0x80) (fun _ => []) =
    some (0x0107, 0x80, []) := by decide
theorem test_B24_bhi_5 : after [0xEE, 0x05] (start 0x0000 0x0000 0x0000 0x0000 0x8000 0x0100 0x04) (fun _ => []) =
    some (0x0102, 0x04, []) := by decide
theorem test_B25_bls_5 : after [0xEF, 0x05] (start 0x0000 0x0000 0x0000 0x0000 0x8000 0x0100 0x24) (fun _ => []) =
    some (0x0107, 0x24, []) := by decide
theorem test_X01_move_r0_sp : after [0xF0] (start 0x1111 0x0000 0x0000 0x0000 0x7FFE 0x0100 0x04) (fun t => [t.regs.r0]) =
    some (0x0101, 0x04, [0x7FFE]) := by decide
theorem test_X02_move_sp_r0 : after [0xF1] (start 0x9000 0x0000 0x0000 0x0000 0x8000 0x0100 0x00) (fun t => [t.sp]) =
    some (0x0101, 0x00, [0x9000]) := by decide
theorem test_X03_jmp_r0 : after [0xF2] (start 0x4321 0x0000 0x0000 0x0000 0x8000 0x0100 0x00) (fun _ => []) =
    some (0x4321, 0x00, []) := by decide
theorem test_X04_jmp_0x5000 : after [0xF3, 0x00, 0x50] (start 0x0000 0x0000 0x0000 0x0000 0x8000 0x0100 0x00) (fun _ => []) =
    some (0x5000, 0x00, []) := by decide
theorem test_X06_andi_ps_0xdf : after [0xF4, 0xDF] (start 0x0000 0x0000 0x0000 0x0000 0x8000 0x0100 0xFE) (fun _ => []) =
    some (0x0102, 0xDE, []) := by decide
theorem test_X09_ori_ps_0xff : after [0xF5, 0xFF] (start 0x0000 0x0000 0x0000 0x0000 0x8000 0x0100 0x00) (fun _ => []) =
    some (0x0102, 0xFE, []) := by decide
theorem test_X12_addi_sp_127 : after [0xF6, 0x7F] (start 0x0000 0x0000 0x0000 0x0000 0xFFFF 0x0100 0x00) (fun t => [t.sp]) =
    some (0x0102, 0x00, [0x007E]) := by decide
theorem test_X18_sqrt : after [0xF7] (start 0x0000 0xFE01 0x0000 0x0000 0x8000 0x0100 0x00) (fun t => [t.regs.r0]) =
    some (0x0101, 0x00, [0x00FF]) := by decide
theorem test_X19_sqrt : after [0xF7] (start 0x0000 0xFE00 0x0000 0x0000 0x8000 0x0100 0x00) (fun t => [t.regs.r0]) =
    some (0x0101, 0x00, [0x00FE]) := by decide
theorem test_X22_mulu : after [0xF8] (start 0xFFFF 0xFFFF 0x0000 0x0000 0x8000 0x0100 0x00) (fun t => [t.regs.r2, t.regs.r3]) =
    some (0x0101, 0x02, [0x0001, 0xFFFE]) := by decide
theorem test_X23_mulu : after [0xF8] (start 0x0000 0x1234 0x1111 0x2222 0x8000 0x0100 0x00) (fun t => [t.regs.r2, t.regs.r3]) =
    some (0x0101, 0x04, [0x0000, 0x0000]) := by decide
theorem test_X25_muls : after [0xF9] (start 0xFFFE 0x0003 0x0000 0x0000 0x8000 0x0100 0x00) (fun t => [t.regs.r2, t.regs.r3]) =
    some (0x0101, 0x02, [0xFFFA, 0xFFFF]) := by decide
theorem test_X28_muls : after [0xF9] (start 0x8000 0x7FFF 0x0000 0x0000 0x8000 0x0100 0x00) (fun t => [t.regs.r2, t.regs.r3]) =
    some (0x0101, 0x02, [0x8000, 0xC000]) := by decide
theorem test_X31_divu : after [0xFA] (start 0x0001 0xFFFF 0x0000 0x0000 0x8000 0x0100 0x00) (fun t => [t.regs.r3]) =
    some (0x0101, 0x04, [0x0001]) := by decide
theorem test_X33_divu : after [0xFA] (start 0x0007 0x0000 0x1111 0x2222 0x8000 0x0100 0x22) (fun t => [t.sp]) =
    some (0x0008, 0x22, [0x7FFC]) := by decide
theorem test_X36_divs : after [0xFB] (start 0xFFF9 0x0002 0x0000 0x0000 0x8000 0x0100 0x40) (fun t => [t.regs.r2, t.regs.r3]) =
    some (0x0101, 0x42, [0xFFFC, 0x0001]) := by decide
theorem test_X43_divs : after [0xFB] (start 0x8000 0xFFFF 0x0000 0x0000 0x8000 0x0100 0x00) (fun t => [t.regs.r2]) =
    some (0x0101, 0x0A, [0x8000]) := by decide
theorem test_X46_addx_r0_r1 : after [0xFC] (start 0xFFFF 0x0000 0x0000 0x0000 0x8000 0x0100 0x10) (fun t => [t.regs.r0]) =
    some (0x0101, 0x34, [0x0000]) := by decide
theorem test_X47_addx_r0_r1 : after [0xFC] (start 0x0001 0x0001 0x0000 0x0000 0x8000 0x0100 0x20) (fun t => [t.regs.r0]) =
    some (0x0101, 0x00, [0x0002]) := by decide
theorem test_X50_subx_r0_r1 : after [0xFD] (start 0x0000 0x0000 0x0000 0x0000 0x8000 0x0100 0x10) (fun t => [t.regs.r0]) =
    some (0x0101, 0x32, [0xFFFF]) := by decide
theorem test_X53_subx_r0_r1 : after [0xFD] (start 0x8000 0x7FFF 0x0000 0x0000 0x8000 0x0100 0x10) (fun t => [t.regs.r0]) =
    some (0x0101, 0x0C, [0x0000]) := by decide
theorem test_X55_negx_r0 : after [0xFE] (start 0x0000 0x0000 0x0000 0x0000 0x8000 0x0100 0x10) (fun t => [t.regs.r0]) =
    some (0x0101, 0x32, [0xFFFF]) := by decide
theorem test_X58_negx_r0 : after [0xFE] (start 0x8000 0x0000 0x0000 0x0000 0x8000 0x0100 0x00) (fun _ => []) =
    some (0x0101, 0x3A, []) := by decide
theorem test_X59_nop : after [0xFF] (start 0x0000 0x0000 0x0000 0x0000 0x8000 0x0100 0xFE) (fun _ => []) =
    some (0x0101, 0xFE, []) := by decide
/-! ## Fetch, memory map, cycles -/

/-- The first step after reset runs an opcode table word placed where it is fetched (rows of one, two and three bytes). -/
theorem test_fetch_word :
    step (State.reset.withFetchWord 8 0x50) = .next { State.reset.withFetchWord 8 0x50 with
      regs := ⟨2#16, 0#16, 0#16, 0#16⟩, pc := 0x0001#16 } ∧
    step (State.reset.withFetchWord 16 0xD910) = .next { State.reset.withFetchWord 16 0xD910 with
      pc := 0x0002#16, ps := { State.reset.ps with z := true } } ∧
    step (State.reset.withFetchWord 24 0x5000F3) = .next { State.reset.withFetchWord 24 0x5000F3 with pc := 0x5000#16 } :=
  ⟨rfl, rfl, rfl⟩

/-- A state whose `MEM_MAP` has one region. -/
def mapped (kind : Config.RegionKind) : State :=
  { State.reset with params := { Config.Params.standard with memMap := [⟨0x8000#16, 0x8000, kind⟩] } }

/-- An access outside memory has no step, nor has a store to ROM; what a device does is outside the spec (R69, R71). -/
theorem test_memory_map_stops :
    exec (.ldwR0Abs 0x7FFF) (mapped .absent) = .fault .noMemory ∧
    exec (.stbAbsR0 0x8000) (mapped .rom) = .fault .romWrite ∧
    exec (.stbAbsR0 0x8000) (mapped .device) = .refused .deviceAccess ∧
    step { mapped .absent with pc := 0x8000#16 } = .fault .noMemory := ⟨rfl, rfl, rfl, rfl⟩

/-- A `SHIFT_DESCR` in which the byte 0 stands for the descriptor 0x41 of the default layout: `D8 00` is `asl r0,#1`, and
the byte 1 stands for itself (R105; log 9). -/
theorem test_another_descriptor_layout :
    let s : State := { start 0x0003 0 0 0 0x8000 0x0100 0 with params := { Config.Params.standard with shiftDescr := [0x41] } }
    after [0xD8, 0x00] s (fun t => [t.regs.r0]) = some (0x0102, 0x00, [0x0006]) ∧
    after [0xD8, 0x01] s (fun t => [t.regs.r0]) = some (0x0102, 0x00, [0x0006]) ∧
    after [0xDC, 0xC2] s (fun t => [t.regs.r0]) = some (0x0102, 0x00, [0x0007]) := by decide

/-- ROM is read (R71). -/
theorem test_rom_is_read :
    exec (.ldbR0Abs 0xFFFF) (mapped .rom) = .next { mapped .rom with ps := { (mapped .rom).ps with z := true } } := rfl

/-- The cycle counts of vectors A07, M24, M25, S01, S15, X33 (R388). -/
theorem test_cycles :
    cycles .moveR0R1 State.reset = 1 ∧ cycles (.ldwR0Abs 0x1234) State.reset = 5 ∧
    cycles (.ldbR0Abs 0x1234) State.reset = 4 ∧ cycles .pushR0 State.reset = 3 ∧
    cycles (.jsrAddr 0x5000) State.reset = 5 ∧ cycles .divu State.reset = 5 := ⟨rfl, rfl, rfl, rfl, rfl, rfl⟩

/-- The end of a run (R391): by default a jump to itself (vector X05), that step counted; else an end address, or a step
bound. The machine itself goes on. -/
theorem test_end_of_a_run :
    let s : State := (start 0 0 0 0 0x8000 0x0100 0).putBytes 0x0100 [0xF3, 0x00, 0x01]
    let t : State := (start 0 0 0 0 0x8000 0x0100 0).putBytes 0x0100 [0xFF, 0xFF]
    let atEnd (e : Config.EndPc) : State := { t with params := { t.params with endPc := e } }
    run 5 s = .ended 1 s ∧ step s = .next s ∧
    run 1 t = .unfinished { t with pc := 0x0101#16 } ∧
    run 5 (atEnd (.addresses [0x0102#16, 0x0101#16])) =
      .ended 1 { atEnd (.addresses [0x0102#16, 0x0101#16]) with pc := 0x0101#16 } ∧
    run 5 (atEnd (.stepBound 2)) = .ended 2 { atEnd (.stepBound 2) with pc := 0x0102#16 } :=
  ⟨rfl, rfl, rfl, rfl, rfl⟩

/-! ## Witnesses: for every statement with hypotheses, a state and operands that meet them -/

/-- A state at the edges: SP is 0, PC and R2 are 0xFFFF, R1 is 1. -/
def edge : State := start 0x0003 0x0001 0xFFFF 0x2000 0x0000 0xFFFF 0x0A

theorem witness_DecodingAnEncodedInstructionGivesItBack :
    (Instr.shiftR3Descr 0xFF).wellFormed = true ∧ (Instr.ldwR0Abs 0xFFFF).wellFormed = true := ⟨rfl, rfl⟩

theorem witness_StepRunsTheDecodedInstruction :
    let s := edge.putBytes 0xFFFF [0xCF, 0x00, 0x50]
    decode [s.byte s.pc, s.params.descriptor (s.byte s.pc) (s.byte (s.pc + 1#16)), s.byte (s.pc + 2#16)] =
      .ok (.jsrAddr 0x5000, []) ∧
    s.readable s.pc (encode (.jsrAddr 0x5000)).length = true := ⟨rfl, rfl⟩

theorem witness_EveryStepKeepsTheInvariant :
    edge.wf = true ∧ ∃ t, step (edge.putBytes 0xFFFF [0xCF, 0x00, 0x50]) = .next t := ⟨rfl, _, rfl⟩

theorem witness_NoStepWritesHOrAParameter : ∃ t, step State.reset = .next t := ⟨_, rfl⟩

theorem witness_FlagsUAndDChangeOnlyWhenPsIsLoaded :
    loadsPs Instr.ret.form = false ∧ ∃ t, exec .ret edge = .next t := ⟨rfl, _, rfl⟩

theorem witness_FlagXFollowsTheAddFamilyOnly :
    edge.params.roxLink = .c ∧ writesX Instr.addx.form = true ∧ (∃ t, exec .addx edge = .next t) ∧
    writesX Instr.cmpR0R1.form = false ∧ loadsPs Instr.cmpR0R1.form = false ∧ ∃ t, exec .cmpR0R1 edge = .next t :=
  ⟨rfl, rfl, ⟨_, rfl⟩, rfl, rfl, _, rfl⟩

theorem witness_OnlyStoringInstructionsChangeMemory :
    storesAlways Instr.divu.form = false ∧ (divides Instr.divu.form = true → edge.regs.r1 ≠ 0#16) ∧
    ∃ t, exec .divu edge = .next t := ⟨rfl, by decide, _, rfl⟩

theorem witness_EveryInstructionCompletes :
    edge.params.memMap = [] ∧
    (∀ a d, (Instr.shiftR3Descr 0xE3).form = .shiftRaw a d → reservedShiftDescr d = false) ∧
    (∀ a d, (Instr.shiftR3Descr 0xE3).form = .bitRaw a d → reservedBitDescr d = false) ∧
    (∀ a d, (Instr.bitR3Descr 0x40).form = .shiftRaw a d → reservedShiftDescr d = false) ∧
    (∀ a d, (Instr.bitR3Descr 0x40).form = .bitRaw a d → reservedBitDescr d = false) := by
  refine ⟨rfl, ?_, ?_, ?_, ?_⟩ <;> intro a d h <;> cases h <;> rfl

/-- For the statements over two registers: `MoveCopiesAndSxtSignExtends`, `LogicInstructionsCombineRegisters`,
`SubAndNegSubtract`, `CmpComparesRegisters`. -/
theorem witness_two_registers_differ : Reg.r0 ≠ Reg.r3 := by decide

theorem witness_ConditionsAfterCmpSayWhatTheirNamesSay :
    Instr.cmpR0R1.form = .cmp .r0 .r1 ∧ ∃ t, exec .cmpR0R1 edge = .next t := ⟨rfl, _, rfl⟩

/-- For `LoadIndirectReadsMemory`, `LoadPostIncrementReadsThenIncrements` and the two statements of the same stores: the
address is 0xFFFF. -/
theorem witness_register_indirect :
    edge.wf = true ∧ edge.regs.get .r2 = 0xFFFF#16 ∧ edge.readable 0xFFFF#16 2 = true ∧
    edge.writable 0xFFFF#16 2 = true ∧ edge.readable 0xFFFF#16 1 = true ∧ edge.writable 0xFFFF#16 1 = true :=
  ⟨rfl, rfl, rfl, rfl, rfl, rfl⟩

/-- For `LoadStackRelativeAndAbsoluteReadMemory` and `StoreStackRelativeAndAbsoluteWriteTheirBytesOnly`: `m` is 255. -/
theorem witness_stack_relative :
    edge.wf = true ∧ edge.readable (edge.sp + BitVec.ofNat 16 255) 2 = true ∧
    edge.writable (edge.sp + BitVec.ofNat 16 255) 2 = true ∧ edge.readable (edge.sp + BitVec.ofNat 16 255) 1 = true ∧
    edge.writable (edge.sp + BitVec.ofNat 16 255) 1 = true := ⟨rfl, rfl, rfl, rfl, rfl⟩

/-- For `PopAndRetReadTheTopWord`, `PopPsLoadsTheSevenFlags` and `RetiPopsPsThenPc`: the stack pointer is 0xFFFF. -/
theorem witness_pop :
    State.readable { edge with sp := 0xFFFF#16 } 0xFFFF#16 2 = true ∧
    State.readable { edge with sp := 0xFFFF#16 } 0xFFFF#16 4 = true := ⟨rfl, rfl⟩

/-- For `PushStoresARegisterBelowSp`, `PushPsStoresThePsWord`, `TrapPushesPcAndPsAndGoesToItsVector` and
`JsrPushesTheReturnAddress`: the stack pointer is 0. -/
theorem witness_push :
    edge.wf = true ∧ edge.writable (edge.sp - 2#16) 2 = true ∧ edge.writable (edge.sp - 4#16) 4 = true :=
  ⟨rfl, rfl, rfl⟩

theorem witness_ThePsWordHoldsEachFlagAtItsPosition : edge.params.psLayout.distinct = true := rfl

theorem witness_RetiUndoesATrap : edge.wf = true ∧ ∃ t, exec (.trap 0x07) edge = .next t := ⟨rfl, _, rfl⟩

theorem witness_RetReturnsFromJsr :
    edge.wf = true ∧ (∃ t, exec .jsrR0 edge = .next t) ∧ ∃ t, exec (.jsrAddr 0xFFFF) edge = .next t :=
  ⟨rfl, ⟨_, rfl⟩, _, rfl⟩

theorem witness_NopsOnlyAdvancePc :
    edge.readable edge.pc 1 = true ∧ (edge.putBytes 0xFFFF [0xC5]).byte 0xFFFF = 0xC5 ∧
    (edge.putBytes 0xFFFF [0xFF]).byte 0xFFFF = 0xFF := ⟨rfl, rfl, rfl⟩

/-- For the shift, rotate and bit statements: counts 1, 15, -1 and -16 and number 15 from the low bits of a register. -/
theorem witness_counts_from_a_register :
    (1 : Nat) ≤ 1 ∧ 1 ≤ 15 ∧ (15 : Nat) ≤ 15 ∧ (16 : Nat) ≤ 16 ∧
    ((start 0xFFE1 0xFFEF 0xFFFF 0xFFF0 0 0 0).regs.get .r0).toNat % 32 = 1 ∧
    ((start 0xFFE1 0xFFEF 0xFFFF 0xFFF0 0 0 0).regs.get .r1).toNat % 32 = 15 ∧
    ((start 0xFFE1 0xFFEF 0xFFFF 0xFFF0 0 0 0).regs.get .r2).toNat % 32 = 32 - 1 ∧
    ((start 0xFFE1 0xFFEF 0xFFFF 0xFFF0 0 0 0).regs.get .r3).toNat % 32 = 32 - 16 ∧
    ((start 0xFFE1 0xFFEF 0xFFFF 0xFFF0 0 0 0).regs.get .r1).toNat % 16 = 15 ∧
    ((start 0xFFE1 0xFFEF 0xFFFF 0xFFF0 0 0 0).regs.get .r3).toNat % 16 = 0 ∧
    (start 0xFFE1 0xFFEF 0xFFFF 0xFFF0 0 0 0).params.roxLink = .c := by decide

/-- For `AZeroCountOnlyReports`: the low five bits of R0 are 0. -/
theorem witness_AZeroCountOnlyReports :
    ((start 0xFFE0 0 0 0 0 0 0).regs.get .r0).toNat % 32 = 0 ∧
    ((0xC0 : Nat) = 0x00 ∨ (0xC0 : Nat) = 0x40 ∨ (0xC0 : Nat) = 0x80 ∨ (0xC0 : Nat) = 0xC0) := by decide

theorem witness_ReservedDescriptorsAreRefused :
    ((0x24 : Byte).getLsbD 5 = true ∧ (0x24 : Byte).extractLsb' 2 3 ≠ 0#3) ∧ (0x3F : Byte).extractLsb' 6 2 = 0#2 ∧
    ((0x50 : Byte).getLsbD 5 = false ∧ (0x50 : Byte).getLsbD 4 = true) ∧
    ((0xFF : Byte).getLsbD 5 = true ∧ (0xFF : Byte).extractLsb' 2 3 ≠ 0#3) := by decide

theorem witness_RawDescriptorFormsDoWhatTheirBytesDecodeTo :
    (Instr.shiftR0Descr 0xE3).form = .shiftRaw .r0 0xE3 ∧ reservedShiftDescr 0xE3 = false ∧
    (Instr.bitR3Descr 0xCF).form = .bitRaw .r3 0xCF ∧ reservedBitDescr 0xCF = false := ⟨rfl, rfl, rfl, rfl⟩

theorem witness_BranchesGoWhereTheirConditionSays :
    (conditions edge.ps)[0]? = some true ∧ (conditions edge.ps)[15]? = some false := by decide

theorem witness_AndiAndOriActOnTheLowByteOfPs :
    Config.PsLayout.distinct ⟨0, 15, 7, 8, 5, 6, 1⟩ = true := by decide

/-- For `DivuDivides` and `DivsDividesBothWays`, with D at the value of `DIV_D` and at the other. -/
theorem witness_divisor_not_zero :
    edge.regs.r1 ≠ 0#16 ∧ edge.ps.d = edge.params.divD ∧
    (start 0x8000 0xFFFF 0 0 0 0 0x40).regs.r1 ≠ 0#16 ∧ (start 0x8000 0xFFFF 0 0 0 0 0x40).ps.d ≠ edge.params.divD := by
  decide

theorem witness_DivisionByZeroTraps :
    State.reset.wf = true ∧ State.reset.writable (State.reset.sp - 4#16) 4 = true ∧ State.reset.regs.r1 = 0#16 :=
  ⟨rfl, rfl, rfl⟩

theorem witness_AddThenAddxAddsTwoWords :
    ∃ t u, exec .addR0R1 edge = .next t ∧
      exec .addx { t with regs := { t.regs with r0 := 0xFFFF#16, r1 := 0x0001#16 } } = .next u := ⟨_, _, rfl, rfl⟩

end Sys2Proof.Tests
end

/-! SUPPORT. The statements about the state as a whole (10_state.md): what every step keeps, that H is neither read nor
written, which instructions write U, D and X, the PS word, the carry of a 32-bit sum, and what a step runs. -/

namespace Sys2Proof.Machine

open Sys2Proof.Spec

/-! ## What an instruction can answer

For each meaning that may stop or has a choice to make, all there is when it answers a next state. -/

theorem load_next {w : Width} {d : Reg} {ea : EA} {s t : State} (h : load w d ea s = .next t) :
    ∃ v, t = ((s.setReg d v).setZN v).bump w (s.address ea) ea := by
  obtain ⟨-, -, h⟩ | ⟨-, -, h⟩ := State.loadSized_next h
  · exact ⟨_, (Host.Outcome.next.inj h).symm⟩
  · exact ⟨_, (Host.Outcome.next.inj h).symm⟩

theorem store_next {w : Width} {ea : EA} {d : Reg} {s t : State} (h : store w ea d s = .next t) :
    (w = .word ∧ t = (s.putWord (s.address ea) (s.reg d)).bump w (s.address ea) ea) ∨
      (w = .byte ∧ t = (s.putByte (s.address ea) ((s.reg d).extractLsb' 0 8)).bump w (s.address ea) ea) := by
  obtain ⟨hw, -, h⟩ | ⟨hw, -, h⟩ := State.storeSized_next h
  · exact .inl ⟨hw, (Host.Outcome.next.inj h).symm⟩
  · exact .inr ⟨hw, (Host.Outcome.next.inj h).symm⟩

theorem popReg_next {a : Reg} {s t : State} (h : popReg a s = .next t) :
    t = State.setReg { s with sp := s.sp + 2#16 } a (s.word s.sp) :=
  (Host.Outcome.next.inj (State.pop16_next h).2).symm

theorem popStatus_next {s t : State} (h : popStatus s = .next t) :
    t = State.setPs { s with sp := s.sp + 2#16 } (s.word s.sp) :=
  (Host.Outcome.next.inj (State.pop16_next h).2).symm

theorem returnFromSubroutine_next {s t : State} (h : returnFromSubroutine s = .next t) :
    t = { s with sp := s.sp + 2#16, pc := s.word s.sp } :=
  (Host.Outcome.next.inj (State.pop16_next h).2).symm

theorem pushReg_next {a : Reg} {s t : State} (h : pushReg a s = .next t) :
    t = State.putWord { s with sp := s.sp - 2#16 } (s.sp - 2#16) (s.reg a) :=
  (Host.Outcome.next.inj (State.push16_next h).2).symm

theorem pushStatus_next {s t : State} (h : pushStatus s = .next t) :
    t = State.putWord { s.drawn with sp := s.sp - 2#16 } (s.sp - 2#16) s.psWord :=
  (Host.Outcome.next.inj (State.pushPsWord_next h).2).symm

theorem callAddress_next {a : Word} {s t : State} (h : callAddress a s = .next t) :
    t = { State.putWord { s with sp := s.sp - 2#16 } (s.sp - 2#16) s.pc with pc := a } :=
  (Host.Outcome.next.inj (State.push16_next h).2).symm

theorem branchIf_next {c : Cond} {dd : Byte} {s t : State} (h : branchIf c dd s = .next t) :
    ∃ p, t = { s with pc := p } := by
  have ht := Host.Outcome.next.inj h
  split at ht
  · exact ⟨_, ht.symm⟩
  · exact ⟨s.pc, ht.symm⟩

/-- A shift by zero only reports (R237), a shift by another count writes its register and C (R236). -/
theorem shiftReg_next {a : Reg} {k : ShiftKind} {c : ShiftCount} {s t : State} (h : shiftReg a k c s = .next t) :
    t = s.setZN (s.reg a) ∨
      ∃ r out, t = { s.setReg a r with ps := (s.ps.setZN r).setShiftedOut k s.params.roxLink out } := by
  unfold shiftReg shiftCounted at h
  split at h
  · exact .inl (Host.Outcome.next.inj h).symm
  · exact .inr ⟨_, _, (Host.Outcome.next.inj h).symm⟩

theorem shiftByDescriptor_next {a : Reg} {d : Byte} {s t : State} (h : shiftByDescriptor a d s = .next t) :
    ∃ k c, shiftReg a k c s = .next t := by
  unfold shiftByDescriptor at h
  split at h
  · exact ⟨_, _, h⟩
  · cases h

theorem bitByDescriptor_next {a : Reg} {d : Byte} {s t : State} (h : bitByDescriptor a d s = .next t) :
    ∃ o n, bitReg a o n s = .next t := by
  unfold bitByDescriptor at h
  split at h
  · exact ⟨_, _, h⟩
  · cases h

/-- DIVU takes the exception of a zero divisor (R346) or writes quotient and remainder. -/
theorem execDivu_next {s t : State} (h : execDivu s = .next t) :
    t = s.trapped .divideByZero ∨ ∃ q r, t = s.divideResult q r := by
  unfold execDivu at h
  split at h
  · exact .inl (State.takeException_next h).2.2
  · exact .inr ⟨_, _, (Host.Outcome.next.inj h).symm⟩

/-- DIVS as DIVU, with V written too (R311). -/
theorem execDivs_next {s t : State} (h : execDivs s = .next t) :
    t = s.trapped .divideByZero ∨ ∃ q r v, t = { s.divideResult q r with ps := { s.ps.setZN q with v := v } } := by
  unfold execDivs at h
  split at h
  · exact .inl (State.takeException_next h).2.2
  · exact .inr ⟨_, _, _, (Host.Outcome.next.inj h).symm⟩

/-! ## What every instruction keeps, and what it does to the flags -/

/-- The flags an instruction of form `f` may leave, run in `s`: loaded from a word; those of the add family (R36); Z, N,
C and V alone; or, under `ROX_LINK` = X, those of a rotate through carry, which writes X with C (R244). -/
inductive FlagEffect (s : State) (f : Form) : Flags → Prop
  | loaded (w : Word) (hl : loadsPs f = true) (hx : writesX f = false) :
      FlagEffect s f (Flags.ofImage s.params.psLayout w)
  | summed (q : AddResult) (hx : writesX f = true) : FlagEffect s f (s.ps.setSum q)
  | reported (z n c v : Bool) (hx : writesX f = false) :
      FlagEffect s f { s.ps with z := z, n := n, c := c, v := v }
  | linked (z n out : Bool) (hx : writesX f = false) (hr : s.params.roxLink = .x) :
      FlagEffect s f { s.ps with z := z, n := n, c := out, x := out }

theorem FlagEffect.of_setShiftedOut {s : State} {f : Form} (k : ShiftKind) (r : Word) (out : Bool)
    (hx : writesX f = false) : FlagEffect s f ((s.ps.setZN r).setShiftedOut k s.params.roxLink out) := by
  cases k with
  | logical | arithmetic | rotate => exact .reported _ _ _ _ hx
  | rotateCarry =>
    cases hr : s.params.roxLink with
    | c => exact .reported _ _ _ _ hx
    | x => exact .linked _ _ _ hx hr

/-- The frame of a form: H (R27) and the parameters (R29, R341) stay, and the flags change by its `FlagEffect`. -/
structure Frame (s : State) (f : Form) (t : State) : Prop where
  h : t.h = s.h
  params : t.params = s.params
  ps : FlagEffect s f t.ps

theorem Frame.bump {s t : State} {f : Form} (ht : Frame s f t) (w : Width) (a : Word) (ea : EA) :
    Frame s f (t.bump w a ea) :=
  ⟨by simpa using ht.h, by simpa using ht.params, by simpa using ht.ps⟩

theorem Frame.of_shiftReg {s t : State} {f : Form} {a : Reg} {k : ShiftKind} {c : ShiftCount} (hx : writesX f = false)
    (h : shiftReg a k c s = .next t) : Frame s f t := by
  obtain rfl | ⟨r, out, rfl⟩ := shiftReg_next h
  · exact ⟨rfl, rfl, .reported _ _ _ _ hx⟩
  · exact ⟨rfl, rfl, .of_setShiftedOut k r out hx⟩

/-- Every form keeps its frame. -/
theorem formMeaning_frame {f : Form} {s t : State} (h : formMeaning f s = .next t) : Frame s f t := by
  cases f with
  | sxt | move | test | and | xor | inv | or | abs | cmp | loadImmW | loadImmB | bit | nopC5 | moveR0Sp | moveSpR0
  | jmpR0 | jmpAddr | addiSp | sqrt | mulu | muls | nop =>
    cases h
    exact ⟨rfl, rfl, .reported _ _ _ _ rfl⟩
  | add | addq | neg | sub | addx | subx | negx =>
    cases h
    exact ⟨rfl, rfl, .summed _ rfl⟩
  | andiPs | oriPs =>
    cases h
    exact ⟨rfl, rfl, .loaded _ rfl rfl⟩
  | popPs =>
    obtain rfl := popStatus_next h
    exact ⟨rfl, rfl, .loaded _ rfl rfl⟩
  | reti =>
    obtain ⟨-, -, rfl⟩ := State.returnFromTrap_next h
    exact ⟨rfl, rfl, .loaded _ rfl rfl⟩
  | load w d ea =>
    obtain ⟨v, rfl⟩ := load_next h
    refine Frame.bump ?_ w _ ea
    exact ⟨rfl, rfl, .reported _ _ _ _ rfl⟩
  | store w ea d =>
    obtain ⟨-, rfl⟩ | ⟨-, rfl⟩ := store_next h
    · refine Frame.bump ?_ w _ ea
      exact ⟨rfl, rfl, .reported _ _ _ _ rfl⟩
    · refine Frame.bump ?_ w _ ea
      exact ⟨rfl, rfl, .reported _ _ _ _ rfl⟩
  | pop =>
    obtain rfl := popReg_next h
    exact ⟨rfl, rfl, .reported _ _ _ _ rfl⟩
  | ret =>
    obtain rfl := returnFromSubroutine_next h
    exact ⟨rfl, rfl, .reported _ _ _ _ rfl⟩
  | push =>
    obtain rfl := pushReg_next h
    exact ⟨rfl, rfl, .reported _ _ _ _ rfl⟩
  | pushPs =>
    obtain rfl := pushStatus_next h
    exact ⟨rfl, rfl, .reported _ _ _ _ rfl⟩
  | jsrR0 | jsrAddr =>
    obtain rfl := callAddress_next h
    exact ⟨rfl, rfl, .reported _ _ _ _ rfl⟩
  | trap =>
    obtain ⟨-, -, rfl⟩ := State.takeException_next h
    exact ⟨rfl, rfl, .reported _ _ _ _ rfl⟩
  | branch =>
    obtain ⟨p, rfl⟩ := branchIf_next h
    exact ⟨rfl, rfl, .reported _ _ _ _ rfl⟩
  | shift => exact .of_shiftReg rfl h
  | shiftRaw =>
    obtain ⟨k, c, h⟩ := shiftByDescriptor_next h
    exact .of_shiftReg rfl h
  | bitRaw =>
    obtain ⟨o, n, h⟩ := bitByDescriptor_next h
    cases h
    exact ⟨rfl, rfl, .reported _ _ _ _ rfl⟩
  | divu =>
    obtain rfl | ⟨q, r, rfl⟩ := execDivu_next h
    · exact ⟨rfl, rfl, .reported _ _ _ _ rfl⟩
    · exact ⟨rfl, rfl, .reported _ _ _ _ rfl⟩
  | divs =>
    obtain rfl | ⟨q, r, v, rfl⟩ := execDivs_next h
    · exact ⟨rfl, rfl, .reported _ _ _ _ rfl⟩
    · exact ⟨rfl, rfl, .reported _ _ _ _ rfl⟩

/-- Every instruction keeps the frame of its form. -/
theorem exec_frame {i : Instr} {s t : State} (h : exec i s = .next t) : Frame s i.form t :=
  formMeaning_frame (exec_eq_formMeaning i s ▸ h)

/-- Settles O9: the fetch moves `pc` alone, and the instruction keeps its frame. -/
theorem noStepWritesHOrAParameter : Obligations.NoStepWritesHOrAParameter := by
  intro s t h
  have hf : Frame s.pastInstr s.instrAtPc.form t := exec_frame (step_next h).2
  exact ⟨hf.h, hf.params⟩

/-- Of the four effects on the flags, loading PS is the only one that reaches U and D. -/
theorem FlagEffect.keeps_u_d {s : State} {f : Form} {g : Flags} (hg : FlagEffect s f g) (hload : loadsPs f = false) :
    g.u = s.ps.u ∧ g.d = s.ps.d := by
  cases hg with
  | loaded w hl => simp [hload] at hl
  | summed | reported | linked => exact ⟨rfl, rfl⟩

/-- The add family leaves X equal to C. -/
theorem FlagEffect.x_eq_c {s : State} {f : Form} {g : Flags} (hg : FlagEffect s f g) (hf : writesX f = true) :
    g.x = g.c := by
  cases hg with
  | summed q => rfl
  | loaded w hl hx | reported z n c v hx | linked z n out hx => simp [hf] at hx

/-- Under `ROX_LINK` = C only the add family and the loads of PS reach X. -/
theorem FlagEffect.keeps_x {s : State} {f : Form} {g : Flags} (hg : FlagEffect s f g) (hlink : s.params.roxLink = .c)
    (hf : writesX f = false) (hload : loadsPs f = false) : g.x = s.ps.x := by
  cases hg with
  | loaded w hl => simp [hload] at hl
  | summed q hx => simp [hf] at hx
  | reported => rfl
  | linked z n out hx hr => simp [hlink] at hr

/-- Settles O11: U and D by the effect of the form. -/
theorem flagsUAndDChangeOnlyWhenPsIsLoaded : Obligations.FlagsUAndDChangeOnlyWhenPsIsLoaded := by
  intro i s t hload h
  exact (exec_frame h).ps.keeps_u_d hload

/-- Settles O12: X by the effect of the form. -/
theorem flagXFollowsTheAddFamilyOnly : Obligations.FlagXFollowsTheAddFamilyOnly := by
  intro i s t hlink h
  have hps := (exec_frame h).ps
  exact ⟨hps.x_eq_c, hps.keeps_x hlink⟩

/-! ## H is not read (R27)

`withH` gives a machine another H. Every operation commutes with it: an operation of the machine with another H answers
what it answers of the machine itself, with that H in its next state. -/

/-- The machine with another H. -/
def State.withH (s : State) (v : Word) : State := { s with h := v }

@[simp] theorem State.withH_params (s : State) (v : Word) : (s.withH v).params = s.params := rfl
@[simp] theorem State.withH_ps (s : State) (v : Word) : (s.withH v).ps = s.ps := rfl
@[simp] theorem State.withH_reg (s : State) (v : Word) (i : Reg) : (s.withH v).reg i = s.reg i := rfl

/-- An answer with another H in its next state, if it has one. -/
def Result.withH (r : Result) (v : Word) : Result :=
  match r with
  | .next t => .next (t.withH v)
  | .fault e => .fault e
  | .refused e => .refused e

theorem guardRead_withH (s : State) (v a : Word) (k : Result) :
    (s.withH v).guardRead a (Result.withH k v) = Result.withH (s.guardRead a k) v := by
  unfold State.guardRead
  rw [State.withH_params]
  cases s.params.kindAt a <;> rfl

theorem guardWrite_withH (s : State) (v a : Word) (k : Result) :
    (s.withH v).guardWrite a (Result.withH k v) = Result.withH (s.guardWrite a k) v := by
  unfold State.guardWrite
  rw [State.withH_params]
  cases s.params.kindAt a <;> rfl

theorem guardReads_withH (s : State) (v a : Word) (n : Nat) (k : Result) :
    (s.withH v).guardReads a n (Result.withH k v) = Result.withH (s.guardReads a n k) v := by
  induction n generalizing a with
  | zero => rfl
  | succ n ih => rw [State.guardReads, State.guardReads, ih, guardRead_withH]

theorem guardWrites_withH (s : State) (v a : Word) (n : Nat) (k : Result) :
    (s.withH v).guardWrites a n (Result.withH k v) = Result.withH (s.guardWrites a n k) v := by
  induction n generalizing a with
  | zero => rfl
  | succ n ih => rw [State.guardWrites, State.guardWrites, ih, guardWrite_withH]

theorem loadSized_withH (s : State) (v : Word) (w : Width) (a : Word) {k k' : Word → Result}
    (hk : ∀ x, k' x = Result.withH (k x) v) :
    (s.withH v).loadSized w a k' = Result.withH (s.loadSized w a k) v := by
  obtain rfl : k' = fun x => Result.withH (k x) v := funext hk
  cases w with
  | word | byte => exact guardReads_withH s v a _ _

theorem storeSized_withH (s : State) (v : Word) (w : Width) (a x : Word) {k : State → Result}
    (hk : ∀ u, k (State.withH u v) = Result.withH (k u) v) :
    (s.withH v).storeSized w a x k = Result.withH (s.storeSized w a x k) v := by
  cases w with
  | word => exact (congrArg _ (hk (s.putWord a x))).trans (guardWrites_withH s v a 2 _)
  | byte => exact (congrArg _ (hk (s.putByte a _))).trans (guardWrites_withH s v a 1 _)

theorem push16_withH (s : State) (v x : Word) {k : State → Result}
    (hk : ∀ u, k (State.withH u v) = Result.withH (k u) v) :
    (s.withH v).push16 x k = Result.withH (s.push16 x k) v :=
  storeSized_withH { s with sp := s.sp - 2#16 } v .word (s.sp - 2#16) x hk

theorem pop16_withH (s : State) (v : Word) {k : Word → State → Result}
    (hk : ∀ x u, k x (State.withH u v) = Result.withH (k x u) v) :
    (s.withH v).pop16 k = Result.withH (s.pop16 k) v :=
  loadSized_withH s v .word s.sp fun x => hk x { s with sp := s.sp + 2#16 }

theorem takeException_withH (s : State) (v : Word) (e : Exception) :
    (s.withH v).takeException e = Result.withH (s.takeException e) v :=
  push16_withH s v s.pc fun u => push16_withH u.drawn v u.psWord fun _ => rfl

theorem returnFromTrap_withH (s : State) (v : Word) :
    (s.withH v).returnFromTrap = Result.withH s.returnFromTrap v :=
  pop16_withH s v fun w u => pop16_withH (u.setPs w) v fun _ _ => rfl

theorem bump_withH (s : State) (v : Word) (w : Width) (a : Word) (ea : EA) :
    (s.withH v).bump w a ea = (s.bump w a ea).withH v := by
  cases ea <;> rfl

theorem address_withH (s : State) (v : Word) (ea : EA) : (s.withH v).address ea = s.address ea := by
  cases ea <;> rfl

theorem shiftCount_withH (s : State) (v : Word) (c : ShiftCount) : (s.withH v).shiftCount c = s.shiftCount c := by
  cases c <;> rfl

theorem bitNumber_withH (s : State) (v : Word) (n : BitSel) : (s.withH v).bitNumber n = s.bitNumber n := by
  cases n <;> rfl

theorem linkFlag_withH (s : State) (v : Word) (k : ShiftKind) : (s.withH v).linkFlag k = s.linkFlag k := by
  cases k <;> rfl

theorem load_withH (s : State) (v : Word) (w : Width) (d : Reg) (ea : EA) :
    load w d ea (s.withH v) = Result.withH (load w d ea s) v := by
  unfold load
  rw [address_withH]
  exact loadSized_withH s v w _ fun x => congrArg Host.Outcome.next (bump_withH ((s.setReg d x).setZN x) v w _ ea)

theorem store_withH (s : State) (v : Word) (w : Width) (ea : EA) (d : Reg) :
    store w ea d (s.withH v) = Result.withH (store w ea d s) v := by
  unfold store
  rw [address_withH]
  exact storeSized_withH s v w _ _ fun u => congrArg Host.Outcome.next (bump_withH u v w _ ea)

theorem shiftReg_withH (s : State) (v : Word) (a : Reg) (k : ShiftKind) (c : ShiftCount) :
    shiftReg a k c (s.withH v) = Result.withH (shiftReg a k c s) v := by
  unfold shiftReg shiftCounted
  rw [shiftCount_withH, linkFlag_withH]
  split
  · rfl
  · rfl

theorem bitReg_withH (s : State) (v : Word) (a : Reg) (o : BitOp) (n : BitSel) :
    bitReg a o n (s.withH v) = Result.withH (bitReg a o n s) v := by
  unfold bitReg
  rw [bitNumber_withH]
  rfl

theorem callAddress_withH (s : State) (v a : Word) :
    callAddress a (s.withH v) = Result.withH (callAddress a s) v :=
  push16_withH s v s.pc fun _ => rfl

theorem shiftByDescriptor_withH (s : State) (v : Word) (a : Reg) (d : Byte) :
    shiftByDescriptor a d (s.withH v) = Result.withH (shiftByDescriptor a d s) v := by
  unfold shiftByDescriptor
  split
  · exact shiftReg_withH s v a _ _
  · rfl

theorem bitByDescriptor_withH (s : State) (v : Word) (a : Reg) (d : Byte) :
    bitByDescriptor a d (s.withH v) = Result.withH (bitByDescriptor a d s) v := by
  unfold bitByDescriptor
  split
  · exact bitReg_withH s v a _ _
  · rfl

theorem branchIf_withH (s : State) (v : Word) (c : Cond) (dd : Byte) :
    branchIf c dd (s.withH v) = Result.withH (branchIf c dd s) v := by
  unfold branchIf
  rw [State.withH_ps]
  split
  · rfl
  · rfl

theorem execDivu_withH (s : State) (v : Word) : execDivu (s.withH v) = Result.withH (execDivu s) v := by
  unfold execDivu
  rw [State.withH_reg]
  split
  · exact takeException_withH s v _
  · rfl

theorem execDivs_withH (s : State) (v : Word) : execDivs (s.withH v) = Result.withH (execDivs s) v := by
  unfold execDivs
  rw [State.withH_reg]
  split
  · exact takeException_withH s v _
  · rfl

/-- No form reads H. -/
theorem formMeaning_withH (f : Form) (s : State) (v : Word) :
    formMeaning f (s.withH v) = Result.withH (formMeaning f s) v := by
  cases f with
  | sxt | move | test | and | xor | inv | or | add | addq | neg | sub | abs | cmp | loadImmW | loadImmB | nopC5
  | moveR0Sp | moveSpR0 | jmpR0 | jmpAddr | andiPs | oriPs | addiSp | sqrt | mulu | muls | addx | subx | negx | nop => rfl
  | load w d ea => exact load_withH s v w d ea
  | store w ea d => exact store_withH s v w ea d
  | pop a => exact pop16_withH s v (k := fun x u => .next (u.setReg a x)) fun _ _ => rfl
  | popPs => exact pop16_withH s v (k := fun x u => .next (u.setPs x)) fun _ _ => rfl
  | ret => exact pop16_withH s v (k := fun x u => .next { u with pc := x }) fun _ _ => rfl
  | reti => exact returnFromTrap_withH s v
  | push a => exact push16_withH s v (s.reg a) fun _ => rfl
  | jsrR0 => exact callAddress_withH s v (s.reg .r0)
  | jsrAddr addr => exact callAddress_withH s v addr
  | pushPs => exact push16_withH s.drawn v s.psWord fun _ => rfl
  | trap => exact takeException_withH s v _
  | shift a k c => exact shiftReg_withH s v a k c
  | bit a o n => exact bitReg_withH s v a o n
  | shiftRaw a d => exact shiftByDescriptor_withH s v a d
  | bitRaw a d => exact bitByDescriptor_withH s v a d
  | branch c dd => exact branchIf_withH s v c dd
  | divu => exact execDivu_withH s v
  | divs => exact execDivs_withH s v

theorem fetchInstr_withH (s : State) (v : Word) {k : Instr → State → Result}
    (hk : ∀ i u, k i (State.withH u v) = Result.withH (k i u) v) :
    (s.withH v).fetchInstr k = Result.withH (s.fetchInstr k) v := by
  change (s.withH v).guardRead s.pc ((s.withH v).guardReads (s.pc + 1#16) (instrLength (s.byte s.pc) - 1)
    (k s.instrAtPc (s.pastInstr.withH v))) = _
  rw [hk, guardReads_withH, guardRead_withH]
  rfl

/-- No step reads H, nor writes it. -/
theorem step_withH (s : State) (v : Word) : step (s.withH v) = Result.withH (step s) v :=
  fetchInstr_withH s v fun i u => by
    rw [exec_eq_formMeaning, exec_eq_formMeaning, formMeaning_withH]

/-- Settles O10: every operation a step is made of commutes with `withH`. -/
theorem noStepReadsH : Obligations.NoStepReadsH := by
  intro s v
  have h := step_withH s v
  unfold Result.withH at h
  cases hs : step s with
  | next | fault | refused =>
    rw [hs] at h
    exact h

/-! ## The PS word (R30, R31) -/

/-- Reading any bit of a word with one bit put. -/
theorem getLsbD_putBit (w : Word) (p q : Fin 16) (b : Bool) :
    (putBit w p b).getLsbD q.val = if q = p then b else w.getLsbD q.val := by
  by_cases h : q = p
  · subst h
    cases b <;> simp [putBit]
  · have hv : q.val ≠ p.val := fun e => h (Fin.ext e)
    cases b <;> simp [putBit, h, hv]

/-- With distinct positions the image of the flags holds them all, whatever the other bits are: the bit of each flag is
put once, and no later `putBit` touches it. -/
theorem Flags.ofImage_image (f : Flags) {l : Config.PsLayout} (base : Word) (hl : l.distinct = true) :
    Flags.ofImage l (f.image l base) = f := by
  simp only [Config.PsLayout.distinct, decide_eq_true_eq, List.nodup_cons, List.mem_cons, List.not_mem_nil, not_or,
    or_false] at hl
  simp only [Flags.ofImage, Flags.image, getLsbD_putBit, hl, if_true, if_false]

/-- Settles O35: each bit of the PS word is a flag of the loaded word, and those are the flags of the state. -/
theorem thePsWordHoldsEachFlagAtItsPosition : Obligations.ThePsWordHoldsEachFlagAtItsPosition := by
  intro s hl
  have hps : Flags.ofImage s.params.psLayout s.psWord = s.ps := Flags.ofImage_image s.ps _ hl
  exact ⟨congrArg Flags.z hps, congrArg Flags.n hps, congrArg Flags.c hps, congrArg Flags.v hps, congrArg Flags.u hps,
    congrArg Flags.x hps, congrArg Flags.d hps, hps⟩

/-! ## Addition of two words (R312) -/

/-- A high and a low word as a number. -/
theorem toNat_append_words (a b : Word) : (a ++ b).toNat = a.toNat * 65536 + b.toNat := by
  rw [BitVec.toNat_append, ← Nat.shiftLeft_add_eq_or_of_lt b.isLt, Nat.shiftLeft_eq]

/-- `Add16` with its carry as bit 16 is the sum of the numbers. -/
theorem add16_toNat (a b : Word) (cin : Bool) :
    (add16 a b cin).c.toNat * 65536 + (add16 a b cin).r.toNat = a.toNat + b.toNat + cin.toNat := by
  have hcin : cin.toNat ≤ 1 := Bool.toNat_le cin
  have ha := a.isLt
  have hb := b.isLt
  simp only [add16, BitVec.toNat_ofNat]
  by_cases h : 65535 < a.toNat + b.toNat + cin.toNat
  · simp only [h, decide_true, Bool.toNat_true]
    omega
  · simp only [h, decide_false, Bool.toNat_false]
    omega

/-- `Add16` on the low words, then on the high words with its carry in, is the sum of the 32-bit numbers. -/
theorem add16_append (ah al bh bl : Word) :
    (add16 ah bh (add16 al bl false).c).r ++ (add16 al bl false).r = (ah ++ al) + (bh ++ bl) := by
  have hlow := add16_toNat al bl false
  have hhigh := add16_toNat ah bh (add16 al bl false).c
  generalize add16 ah bh (add16 al bl false).c = high at hhigh ⊢
  generalize add16 al bl false = low at hlow hhigh ⊢
  rw [Bool.toNat_false] at hlow
  apply BitVec.eq_of_toNat_eq
  rw [BitVec.toNat_add, toNat_append_words, toNat_append_words, toNat_append_words]
  have hr : high.r.toNat < 65536 := high.r.isLt
  have hl : low.r.toNat < 65536 := low.r.isLt
  have hsum : ah.toNat * 65536 + al.toNat + (bh.toNat * 65536 + bl.toNat) =
      high.r.toNat * 65536 + low.r.toNat + 2 ^ (16 + 16) * high.c.toNat := by
    norm_num only
    linarith
  rw [hsum, Nat.add_mul_mod_self_left, Nat.mod_eq_of_lt (by omega)]

/-- ADD R0, R1 (R138). -/
theorem exec_addR0R1 (s : State) : exec .addR0R1 s = s.sumResult .r0 (add16 s.regs.r0 s.regs.r1 false) := rfl

/-- ADDX R0, R1 (R312): X is the carry in. -/
theorem exec_addx (s : State) : exec .addx s = s.sumResult .r0 (add16 s.regs.r0 s.regs.r1 s.ps.x) := rfl

/-- Settles O60: X after ADD is the carry of the low words, which ADDX takes in. -/
theorem addThenAddxAddsTwoWords : Obligations.AddThenAddxAddsTwoWords := by
  intro s t u ah bh hadd haddx
  rw [exec_addR0R1] at hadd
  rw [exec_addx] at haddx
  have ht := Host.Outcome.next.inj hadd
  have hu := Host.Outcome.next.inj haddx
  have htr : t.regs.r0 = (add16 s.regs.r0 s.regs.r1 false).r := by rw [← ht]; rfl
  have htx : t.ps.x = (add16 s.regs.r0 s.regs.r1 false).c := by rw [← ht]; rfl
  have hur : u.regs.r0 = (add16 ah bh t.ps.x).r := by rw [← hu]; rfl
  rw [hur, htr, htx]
  exact add16_append ah s.regs.r0 bh s.regs.r1

/-! ## The step (R112) -/

/-- Every shift instruction takes two bytes, whatever row its descriptor names. -/
theorem length_encode_decodeShift (a : Reg) (d : Byte) : (encode (decodeShift a d)).length = 2 := by
  unfold decodeShift
  split
  · next k c _ =>
    unfold shiftImmRow
    split <;> rfl
  · next k b _ => cases k <;> rfl
  · cases a <;> rfl

/-- Every bit instruction takes two bytes. -/
theorem length_encode_decodeBit (a : Reg) (d : Byte) : (encode (decodeBit a d)).length = 2 := by
  unfold decodeBit
  split
  case h_7 => cases a <;> rfl
  all_goals rfl

/-- Row by row of the opcode map: every instruction is as long as its opcode says (R91). In row D the shift
and bit instructions are named by their descriptor, in every other row by the opcode alone. -/
theorem opcodeRow_lengths (b1 b2 : Byte) {hi : Nat} (h : hi < 16) :
    (opcodeRow hi b1 b2).map (fun i => (encode i).length) =
      (List.range 16).map (fun lo => instrLength (BitVec.ofNat 8 (16 * hi + lo))) := by
  interval_cases hi
  all_goals
    simp only [opcodeRow, List.map_cons, length_encode_decodeShift, length_encode_decodeBit]
    rfl

/-- A decoded instruction has the length of its opcode. -/
theorem length_encode_decodeOpcode (b0 b1 b2 : Byte) :
    (encode (decodeOpcode b0 b1 b2)).length = instrLength b0 := by
  have hop : BitVec.ofNat 8 (16 * (b0.toNat / 16) + b0.toNat % 16) = b0 := by
    rw [Nat.div_add_mod, BitVec.ofNat_toNat, BitVec.setWidth_eq]
  have hlo : b0.toNat % 16 < 16 := Nat.mod_lt _ (by decide)
  calc (encode (decodeOpcode b0 b1 b2)).length
      = ((opcodeRow (b0.toNat / 16) b1 b2).map (fun i => (encode i).length)).getD (b0.toNat % 16) 1 :=
        (List.getD_map (f := fun i => (encode i).length) (opcodeRow _ b1 b2) Instr.nop).symm
    _ = instrLength (BitVec.ofNat 8 (16 * (b0.toNat / 16) + b0.toNat % 16)) := by
        rw [opcodeRow_lengths b1 b2 (by have := b0.isLt; omega)]
        simp [hlo]
    _ = instrLength b0 := by rw [hop]

/-- Where three bytes decode, it is to the instruction of their opcode. -/
theorem decode_three_eq {b0 b1 b2 : Byte} {i : Instr} {rest : List Byte} (h : decode [b0, b1, b2] = .ok (i, rest)) :
    i = decodeOpcode b0 b1 b2 := by
  simp only [decode] at h
  split at h
  · cases h
  · cases h
    rfl

/-- Settles O5: the bytes that decode are those `fetchInstr` reads, and the encoding is as long as the fetch. -/
theorem stepRunsTheDecodedInstruction : Obligations.StepRunsTheDecodedInstruction := by
  intro s i rest hdecode hread
  obtain rfl : i = s.instrAtPc := decode_three_eq hdecode
  have hlen : (encode s.instrAtPc).length = instrLength (s.byte s.pc) := length_encode_decodeOpcode _ _ _
  rw [hlen] at hread ⊢
  exact State.fetchInstr_eq _ hread

end Sys2Proof.Machine

/-! SUPPORT. The statements about memory (20_memory.md): the invariant that every step keeps, and that under the default
`MEM_MAP` nothing but a reserved descriptor stops an instruction. -/

namespace Sys2Proof.Machine

/-! ## The invariant (R28, R30, R60) -/

theorem State.wf_iff (s : State) : s.wf = true ↔ Memory.wf s.mem = true ∧ s.params.wf = true :=
  Bool.and_eq_true_iff

/-- A shift stores nothing. -/
theorem shiftReg_mem {a : Reg} {k : ShiftKind} {c : ShiftCount} {s t : State} (h : shiftReg a k c s = .next t) :
    t.mem = s.mem := by
  obtain rfl | ⟨r, out, rfl⟩ := shiftReg_next h
  · rfl
  · rfl

/-- An exception stores two words, PC and PS (R344). -/
theorem State.trapped_mem_wf {s : State} (e : Exception) (hs : Memory.wf s.mem = true) :
    Memory.wf (s.trapped e).mem = true :=
  State.putWord_wf _ _ _ (State.putWord_wf { s with sp := s.sp - 2#16 } _ _ hs)

/-- Every form keeps the canonical form of memory: it stores nothing, or through `putByte` and `putWord` alone. -/
theorem formMeaning_keeps_mem_wf {f : Form} {s t : State} (hs : Memory.wf s.mem = true)
    (h : formMeaning f s = .next t) : Memory.wf t.mem = true := by
  cases f with
  | sxt | move | test | and | xor | inv | or | add | addq | neg | sub | abs | cmp | loadImmW | loadImmB | bit | nopC5
  | moveR0Sp | moveSpR0 | jmpR0 | jmpAddr | andiPs | oriPs | addiSp | sqrt | mulu | muls | addx | subx | negx | nop =>
    cases h
    exact hs
  | load w d ea =>
    obtain ⟨v, rfl⟩ := load_next h
    simpa using hs
  | store w ea d =>
    obtain ⟨-, rfl⟩ | ⟨-, rfl⟩ := store_next h
    · rw [State.bump_mem]
      exact State.putWord_wf _ _ _ hs
    · rw [State.bump_mem]
      exact State.putByte_wf _ _ _ hs
  | pop =>
    obtain rfl := popReg_next h
    exact hs
  | popPs =>
    obtain rfl := popStatus_next h
    exact hs
  | ret =>
    obtain rfl := returnFromSubroutine_next h
    exact hs
  | reti =>
    obtain ⟨-, -, rfl⟩ := State.returnFromTrap_next h
    exact hs
  | push =>
    obtain rfl := pushReg_next h
    exact State.putWord_wf _ _ _ hs
  | pushPs =>
    obtain rfl := pushStatus_next h
    exact State.putWord_wf _ _ _ hs
  | jsrR0 | jsrAddr =>
    obtain rfl := callAddress_next h
    exact State.putWord_wf _ _ _ hs
  | trap =>
    obtain ⟨-, -, rfl⟩ := State.takeException_next h
    exact State.trapped_mem_wf _ hs
  | branch =>
    obtain ⟨p, rfl⟩ := branchIf_next h
    exact hs
  | shift =>
    rw [shiftReg_mem h]
    exact hs
  | shiftRaw =>
    obtain ⟨k, c, h⟩ := shiftByDescriptor_next h
    rw [shiftReg_mem h]
    exact hs
  | bitRaw =>
    obtain ⟨o, n, h⟩ := bitByDescriptor_next h
    cases h
    exact hs
  | divu =>
    obtain rfl | ⟨q, r, rfl⟩ := execDivu_next h
    · exact State.trapped_mem_wf _ hs
    · exact hs
  | divs =>
    obtain rfl | ⟨q, r, v, rfl⟩ := execDivs_next h
    · exact State.trapped_mem_wf _ hs
    · exact hs

/-- Every instruction keeps the invariant: memory by its form, the flag positions because no parameter is written. -/
theorem exec_keeps_wf {i : Instr} {s t : State} (hs : s.wf = true) (h : exec i s = .next t) : t.wf = true := by
  obtain ⟨hmem, hparams⟩ := s.wf_iff.mp hs
  refine t.wf_iff.mpr ⟨formMeaning_keeps_mem_wf hmem (exec_eq_formMeaning i s ▸ h), ?_⟩
  rw [(exec_frame h).params]
  exact hparams

/-- Settles O8: the fetch moves `pc` alone, and the instruction keeps the invariant. -/
theorem everyStepKeepsTheInvariant : Obligations.EveryStepKeepsTheInvariant := by
  intro s t hs h
  have hpast : s.pastInstr.wf = true := hs
  exact exec_keeps_wf hpast (step_next h).2

/-! ## Completion under the default `MEM_MAP` (R71, R108)

Where no region is listed every access is allowed, so an access goes on with its continuation. -/

/-- The shift descriptors that name a shift are the ones that are not reserved (R106, R110). -/
theorem isSome_shiftDescr (d : Byte) : (shiftDescr d).isSome = !reservedShiftDescr d := by
  unfold shiftDescr reservedShiftDescr
  cases d.getLsbD 5 with
  | false => rfl
  | true => by_cases h : d.extractLsb' 2 3 = 0#3 <;> simp [h]

/-- The bit descriptors that name a bit operation are the ones that are not reserved (R107, R110). -/
theorem isSome_bitDescr (d : Byte) : (bitDescr d).isSome = !reservedBitDescr d := by
  have hop : ∀ o : BitVec 2, o = 0#2 ∨ o = 1#2 ∨ o = 2#2 ∨ o = 3#2 := by decide
  unfold bitDescr reservedBitDescr
  cases d.getLsbD 5 with
  | false => rcases hop (d.extractLsb' 6 2) with h | h | h | h <;> cases d.getLsbD 4 <;> simp [h]
  | true =>
    by_cases hz : d.extractLsb' 2 3 = 0#3 <;> rcases hop (d.extractLsb' 6 2) with h | h | h | h <;> simp [h, hz]

section

variable {s : State} (hmap : s.params.memMap = [])
include hmap

theorem loadSized_completes (w : Width) (a : Word) {k : Word → Result} (hk : ∀ v, ∃ t, k v = .next t) :
    ∃ t, s.loadSized w a k = .next t := by
  cases w with
  | word => exact (hk _).imp fun _ => (State.loadWord_eq k (State.readable_of_no_map hmap a 2)).trans
  | byte => exact (hk _).imp fun _ => (State.loadByte_eq k (State.readable_of_no_map hmap a 1)).trans

theorem storeSized_completes (w : Width) (a v : Word) {k : State → Result} (hk : ∀ u, ∃ t, k u = .next t) :
    ∃ t, s.storeSized w a v k = .next t := by
  cases w with
  | word => exact (hk _).imp fun _ => (State.storeWord_eq v k (State.writable_of_no_map hmap a 2)).trans
  | byte => exact (hk _).imp fun _ => (State.storeByte_eq v k (State.writable_of_no_map hmap a 1)).trans

theorem push16_completes (v : Word) {k : State → Result} (hk : ∀ u, ∃ t, k u = .next t) :
    ∃ t, s.push16 v k = .next t :=
  (hk _).imp fun _ => (State.push16_eq v k (State.writable_of_no_map hmap _ 2)).trans

theorem pop16_completes {k : Word → State → Result} (hk : ∀ v u, ∃ t, k v u = .next t) :
    ∃ t, s.pop16 k = .next t :=
  (hk _ _).imp fun _ => (State.pop16_eq k (State.readable_of_no_map hmap _ 2)).trans

theorem takeException_completes (e : Exception) : ∃ t, s.takeException e = .next t :=
  ⟨_, State.takeException_eq e (State.writable_of_no_map hmap _ 2) (State.writable_of_no_map hmap _ 2)⟩

theorem returnFromTrap_completes : ∃ t, s.returnFromTrap = .next t :=
  ⟨_, State.returnFromTrap_eq (State.readable_of_no_map hmap _ 2) (State.readable_of_no_map hmap _ 2)⟩

/-- DIVU divides or takes the exception of a zero divisor (R310, R346). -/
theorem execDivu_completes : ∃ t, execDivu s = .next t := by
  unfold execDivu
  split
  · exact takeException_completes hmap _
  · exact ⟨_, rfl⟩

/-- DIVS divides or takes the exception of a zero divisor (R311, R346). -/
theorem execDivs_completes : ∃ t, execDivs s = .next t := by
  unfold execDivs
  split
  · exact takeException_completes hmap _
  · exact ⟨_, rfl⟩

end

theorem shiftReg_completes (a : Reg) (k : ShiftKind) (c : ShiftCount) (s : State) :
    ∃ t, shiftReg a k c s = .next t := by
  unfold shiftReg shiftCounted
  split
  · exact ⟨_, rfl⟩
  · exact ⟨_, rfl⟩

theorem shiftByDescriptor_completes (a : Reg) {d : Byte} (s : State) (hd : reservedShiftDescr d = false) :
    ∃ t, shiftByDescriptor a d s = .next t := by
  obtain ⟨⟨k, c⟩, hkc⟩ := Option.isSome_iff_exists.mp ((isSome_shiftDescr d).trans (by rw [hd]; rfl))
  rw [shiftByDescriptor, hkc]
  exact shiftReg_completes a k c s

theorem bitByDescriptor_completes (a : Reg) {d : Byte} (s : State) (hd : reservedBitDescr d = false) :
    ∃ t, bitByDescriptor a d s = .next t := by
  obtain ⟨⟨o, n⟩, hon⟩ := Option.isSome_iff_exists.mp ((isSome_bitDescr d).trans (by rw [hd]; rfl))
  rw [bitByDescriptor, hon]
  exact ⟨_, rfl⟩

/-- Every form completes, but for a raw form with a reserved descriptor. -/
theorem formMeaning_completes {f : Form} {s : State} (hmap : s.params.memMap = [])
    (hshift : ∀ a d, f = .shiftRaw a d → reservedShiftDescr d = false)
    (hbit : ∀ a d, f = .bitRaw a d → reservedBitDescr d = false) : ∃ t, formMeaning f s = .next t := by
  cases f with
  | sxt | move | test | and | xor | inv | or | add | addq | neg | sub | abs | cmp | loadImmW | loadImmB | bit | branch
  | nopC5 | moveR0Sp | moveSpR0 | jmpR0 | jmpAddr | andiPs | oriPs | addiSp | sqrt | mulu | muls | addx | subx | negx
  | nop => exact ⟨_, rfl⟩
  | load w d ea => exact loadSized_completes hmap w _ fun _ => ⟨_, rfl⟩
  | store w ea d => exact storeSized_completes hmap w _ _ fun _ => ⟨_, rfl⟩
  | pop | popPs | ret => exact pop16_completes hmap fun _ _ => ⟨_, rfl⟩
  | reti => exact returnFromTrap_completes hmap
  | push a => exact push16_completes hmap (s.reg a) fun _ => ⟨_, rfl⟩
  | jsrR0 | jsrAddr => exact push16_completes hmap s.pc fun _ => ⟨_, rfl⟩
  | pushPs => exact push16_completes (s := s.drawn) hmap s.psWord fun _ => ⟨_, rfl⟩
  | trap => exact takeException_completes hmap _
  | shift a k c => exact shiftReg_completes a k c s
  | shiftRaw a d => exact shiftByDescriptor_completes a s (hshift a d rfl)
  | bitRaw a d => exact bitByDescriptor_completes a s (hbit a d rfl)
  | divu => exact execDivu_completes hmap
  | divs => exact execDivs_completes hmap

/-- Settles O14: by the form of the instruction. -/
theorem everyInstructionCompletes : Obligations.EveryInstructionCompletes := by
  intro i s hmap hshift hbit
  rw [exec_eq_formMeaning]
  exact formMeaning_completes hmap hshift hbit

end Sys2Proof.Machine

/-! SUPPORT. The statements about the encoding (30_encoding.md): the decoder and the encoder undo each other, the first
byte gives the length, and a reserved descriptor is refused. -/

namespace Sys2Proof.Machine

open Sys2Proof.Spec

/-! ## The fields of an operand and of a descriptor (R92, R106, R107) -/

/-- A word is its high byte over its low byte. -/
theorem hi_append_lo (v : Word) : hi v ++ lo v = v := BitVec.extractLsb'_append_extractLsb'

/-- Any two bytes are the two bytes of a word. -/
theorem exists_word_of_bytes (b1 b2 : Byte) : ∃ v : Word, lo v = b1 ∧ hi v = b2 :=
  ⟨b2 ++ b1, BitVec.extractLsb'_append_eq_right, BitVec.extractLsb'_append_eq_left⟩

theorem Reg.bits_ofBits : ∀ b : BitVec 2, (Reg.ofBits b).bits = b := by decide

theorem shiftKindOf_bits : ∀ b : BitVec 2, (shiftKindOf b).bits = b := by decide

/-- The fields of a shift descriptor with a count (R106). -/
theorem append_count_fields : ∀ d : Byte, d.getLsbD 5 = false →
    d.extractLsb' 6 2 ++ 0#1 ++ d.extractLsb' 0 5 = d := by decide

/-- The fields of a bit descriptor with a number (R107). -/
theorem append_number_fields : ∀ d : Byte, d.getLsbD 5 = false → d.getLsbD 4 = false →
    d.extractLsb' 6 2 ++ 0#2 ++ d.extractLsb' 0 4 = d := by decide

/-- The fields of a descriptor with a register (R106, R107). -/
theorem append_register_fields : ∀ d : Byte, d.getLsbD 5 = true → d.extractLsb' 2 3 = 0#3 →
    d.extractLsb' 6 2 ++ 1#1 ++ 0#3 ++ d.extractLsb' 0 2 = d := by decide

/-- A shift is what its descriptor names. -/
theorem shiftDescr_encodeShiftDescr (k : ShiftKind) (c : ShiftCount) :
    shiftDescr (encodeShiftDescr k c) = some (k, c) := by
  cases c with
  | imm c => cases k <;> revert c <;> decide
  | reg b => cases k <;> cases b <;> rfl

/-- A bit operation is what its descriptor names. -/
theorem bitDescr_encodeBitDescr (o : BitOp) (n : BitSel) : bitDescr (encodeBitDescr o n) = some (o, n) := by
  cases n with
  | imm n => cases o <;> revert n <;> decide
  | reg b => cases o <;> cases b <;> rfl

/-- A descriptor that names a shift is the one of that shift: no bit of it is dropped. -/
theorem encodeShiftDescr_of_shiftDescr {d : Byte} {k : ShiftKind} {c : ShiftCount} (h : shiftDescr d = some (k, c)) :
    encodeShiftDescr k c = d := by
  unfold shiftDescr at h
  dsimp only at h
  split_ifs at h with h5 hz
  · cases h
    simpa only [encodeShiftDescr, shiftKindOf_bits, Reg.bits_ofBits] using append_register_fields d h5 hz
  · cases h
    simpa only [encodeShiftDescr, shiftKindOf_bits] using append_count_fields d (Bool.eq_false_of_not_eq_true h5)

/-- A bit descriptor has the field of the operation it names in `d[7:6]` (R107). -/
theorem bitDescr_op_bits {d : Byte} {o : BitOp} {n : BitSel} (h : bitDescr d = some (o, n)) :
    o.bits = d.extractLsb' 6 2 := by
  unfold bitDescr at h
  dsimp only at h
  split at h
  · next o' n' ho hn =>
    cases h
    split_ifs at ho with h1 h2 h3
    · cases ho; exact h1.symm
    · cases ho; exact h2.symm
    · cases ho; exact h3.symm
  · cases h

/-- A bit descriptor names its bit by a register or by a number, never by a reserved value (R107, R110). -/
theorem bitDescr_sel {d : Byte} {o : BitOp} {n : BitSel} (h : bitDescr d = some (o, n)) :
    (d.getLsbD 5 = true ∧ d.extractLsb' 2 3 = 0#3 ∧ n = .reg (Reg.ofBits (d.extractLsb' 0 2))) ∨
      (d.getLsbD 5 = false ∧ d.getLsbD 4 = false ∧ n = .imm (d.extractLsb' 0 4)) := by
  unfold bitDescr at h
  dsimp only at h
  split at h
  · next o' n' ho hn =>
    cases h
    split_ifs at hn with h5 hz h4
    · cases hn; exact .inl ⟨h5, hz, rfl⟩
    · cases hn; exact .inr ⟨Bool.eq_false_of_not_eq_true h5, Bool.eq_false_of_not_eq_true h4, rfl⟩
  · cases h

/-- A descriptor that names a bit operation is the one of that operation. -/
theorem encodeBitDescr_of_bitDescr {d : Byte} {o : BitOp} {n : BitSel} (h : bitDescr d = some (o, n)) :
    encodeBitDescr o n = d := by
  have hop : o.bits = d.extractLsb' 6 2 := bitDescr_op_bits h
  obtain ⟨h5, hz, rfl⟩ | ⟨h5, h4, rfl⟩ := bitDescr_sel h
  · simpa only [encodeBitDescr, hop, Reg.bits_ofBits] using append_register_fields d h5 hz
  · simpa only [encodeBitDescr, hop] using append_number_fields d h5 h4

/-! ## Shift and bit instructions (R105, R232, R233) -/

/-- The opcode of a shift (R101). -/
def shiftOpcode (a : Reg) : Byte := 0xD#4 ++ 2#2 ++ a.bits

/-- The opcode of a bit instruction (R101). -/
def bitOpcode (a : Reg) : Byte := 0xD#4 ++ 3#2 ++ a.bits

theorem decodeOpcode_shiftOpcode (a : Reg) (d b2 : Byte) : decodeOpcode (shiftOpcode a) d b2 = decodeShift a d := by
  cases a <;> rfl

theorem decodeOpcode_bitOpcode (a : Reg) (d b2 : Byte) : decodeOpcode (bitOpcode a) d b2 = decodeBit a d := by
  cases a <;> rfl

theorem instrLength_shiftOpcode (a : Reg) : instrLength (shiftOpcode a) = 2 := by cases a <;> rfl

theorem instrLength_bitOpcode (a : Reg) : instrLength (bitOpcode a) = 2 := by cases a <;> rfl

/-- The count of an immediate shift is its sign bit over the number of its row. -/
theorem append_sign (c : BitVec 5) : BitVec.ofBool c.msb ++ c.extractLsb' 0 4 = c := by
  revert c
  decide

theorem form_shiftImmRow (a : Reg) (k : ShiftKind) (c : BitVec 5) : (shiftImmRow a k c).form = .shift a k (.imm c) := by
  have hrow : (shiftImmRow a k c).form = .shift a k (.imm (BitVec.ofBool c.msb ++ c.extractLsb' 0 4)) := by
    unfold shiftImmRow
    cases c.msb <;> cases k <;> rfl
  rw [hrow, append_sign]

theorem form_decodeShift {a : Reg} {d : Byte} {k : ShiftKind} {c : ShiftCount} (h : shiftDescr d = some (k, c)) :
    (decodeShift a d).form = .shift a k c := by
  unfold decodeShift
  rw [h]
  cases c with
  | imm c => exact form_shiftImmRow a k c
  | reg b => cases k <;> rfl

theorem form_decodeShift_reserved {a : Reg} {d : Byte} (h : shiftDescr d = none) :
    (decodeShift a d).form = .shiftRaw a d := by
  unfold decodeShift
  rw [h]
  cases a <;> rfl

theorem form_decodeBit {a : Reg} {d : Byte} {o : BitOp} {n : BitSel} (h : bitDescr d = some (o, n)) :
    (decodeBit a d).form = .bit a o n := by
  unfold decodeBit
  rw [h]
  cases o <;> cases n <;> rfl

theorem form_decodeBit_reserved {a : Reg} {d : Byte} (h : bitDescr d = none) :
    (decodeBit a d).form = .bitRaw a d := by
  unfold decodeBit
  rw [h]
  cases a <;> rfl

theorem shiftDescr_eq_none_iff (d : Byte) : shiftDescr d = none ↔ reservedShiftDescr d = true := by
  rw [← Option.isNone_iff_eq_none, ← Option.not_isSome, isSome_shiftDescr, Bool.not_not]

theorem bitDescr_eq_none_iff (d : Byte) : bitDescr d = none ↔ reservedBitDescr d = true := by
  rw [← Option.isNone_iff_eq_none, ← Option.not_isSome, isSome_bitDescr, Bool.not_not]

/-- A shift, whatever row its descriptor names, has the bytes it was read from. -/
theorem encode_decodeShift (a : Reg) (d : Byte) : encode (decodeShift a d) = [shiftOpcode a, d] := by
  unfold encode
  cases h : shiftDescr d with
  | none => rw [form_decodeShift_reserved h]; rfl
  | some kc => rw [form_decodeShift h, Form.encode, encodeShiftDescr_of_shiftDescr h, shiftOpcode]

/-- A bit instruction has the bytes it was read from. -/
theorem encode_decodeBit (a : Reg) (d : Byte) : encode (decodeBit a d) = [bitOpcode a, d] := by
  unfold encode
  cases h : bitDescr d with
  | none => rw [form_decodeBit_reserved h]; rfl
  | some on => rw [form_decodeBit h, Form.encode, encodeBitDescr_of_bitDescr h, bitOpcode]

theorem wellFormed_decodeShift (a : Reg) (d : Byte) : (decodeShift a d).wellFormed = true := by
  unfold Instr.wellFormed
  cases h : shiftDescr d with
  | none => rw [form_decodeShift_reserved h]; exact (shiftDescr_eq_none_iff d).mp h
  | some kc => rw [form_decodeShift h]; rfl

theorem wellFormed_decodeBit (a : Reg) (d : Byte) : (decodeBit a d).wellFormed = true := by
  unfold Instr.wellFormed
  cases h : bitDescr d with
  | none => rw [form_decodeBit_reserved h]; exact (bitDescr_eq_none_iff d).mp h
  | some on => rw [form_decodeBit h]; rfl

/-! ## The decoder -/

/-- Bytes that begin with an opcode and as many bytes as it asks for decode to its instruction (R91, R112). -/
theorem decode_append {b0 : Byte} {bs : List Byte} (rest : List Byte) (h : bs.length + 1 = instrLength b0) :
    decode (b0 :: bs ++ rest) =
      .ok (decodeOpcode b0 ((bs ++ rest).getD 0 0#8) ((bs ++ rest).getD 1 0#8), rest) := by
  have hlen : ¬ (bs ++ rest).length + 1 < instrLength b0 := by rw [List.length_append]; omega
  rw [List.cons_append, decode, if_neg hlen, ← h, Nat.add_sub_cancel, List.drop_left]

/-- Three bytes decode to the instruction of their opcode (R108), which leaves those it does not take. -/
theorem decode_three (b0 b1 b2 : Byte) :
    decode [b0, b1, b2] = .ok (decodeOpcode b0 b1 b2, [b1, b2].drop (instrLength b0 - 1)) := by
  have hlen : ∀ b : Byte, ¬ 3 < instrLength b := by decide
  exact if_neg (hlen b0)

/-- The decoder gives an instruction back from its bytes, whatever bytes follow. -/
def RoundTrips (i : Instr) : Prop :=
  ∃ b0 bs, encode i = b0 :: bs ∧ bs.length + 1 = instrLength b0 ∧
    ∀ rest : List Byte, decodeOpcode b0 ((bs ++ rest).getD 0 0#8) ((bs ++ rest).getD 1 0#8) = i

theorem RoundTrips.decode_encode {i : Instr} (h : RoundTrips i) (rest : List Byte) :
    decode (encode i ++ rest) = .ok (i, rest) := by
  obtain ⟨b0, bs, hbytes, hlen, hi⟩ := h
  rw [hbytes, decode_append rest hlen, hi]

/-- An instruction with a 16-bit operand, low byte first (R92). -/
theorem RoundTrips.of_word {row : Word → Instr} {v : Word} {b0 : Byte} (hbytes : encode (row v) = encodeF3 b0 v)
    (hlen : instrLength b0 = 3) (hrow : ∀ b1 b2, decodeOpcode b0 b1 b2 = row (b2 ++ b1)) : RoundTrips (row v) :=
  ⟨b0, [lo v, hi v], hbytes, hlen.symm, fun _ => (hrow _ _).trans (congrArg row (hi_append_lo v))⟩

/-- A shift: the decoder takes its row from the descriptor. -/
theorem RoundTrips.of_shift {i : Instr} {a : Reg} {d : Byte} (hbytes : encode i = [shiftOpcode a, d])
    (hi : decodeShift a d = i) : RoundTrips i :=
  ⟨_, _, hbytes, (instrLength_shiftOpcode a).symm, fun _ => (decodeOpcode_shiftOpcode a d _).trans hi⟩

/-- A bit instruction, in the same way. -/
theorem RoundTrips.of_bit {i : Instr} {a : Reg} {d : Byte} (hbytes : encode i = [bitOpcode a, d])
    (hi : decodeBit a d = i) : RoundTrips i :=
  ⟨_, _, hbytes, (instrLength_bitOpcode a).symm, fun _ => (decodeOpcode_bitOpcode a d _).trans hi⟩

theorem decodeShift_encodeShiftDescr_imm (a : Reg) (k : ShiftKind) (c : BitVec 5) :
    decodeShift a (encodeShiftDescr k (.imm c)) = shiftImmRow a k c := by
  unfold decodeShift
  rw [shiftDescr_encodeShiftDescr]

theorem decodeShift_encodeShiftDescr_reg (a : Reg) (k : ShiftKind) (b : Reg) :
    decodeShift a (encodeShiftDescr k (.reg b)) = shiftRegRow a k b := by
  unfold decodeShift
  rw [shiftDescr_encodeShiftDescr]

theorem msb_append_sign (s : BitVec 1) (n : BitVec 4) : (s ++ n).msb = s.msb := by
  rw [BitVec.msb_append, if_neg (by decide)]


/-- Every well-formed instruction. Where its operands are its operand bytes the decoder gives it back by computation;
the other cases put a word, a descriptor or a count together again. -/
theorem roundTrips_of_wellFormed {i : Instr} (h : i.wellFormed = true) : RoundTrips i := by
  cases i with
  | ldwR0Abs | ldwR1Abs | ldwR2Abs | ldwR3Abs | ldbR0Abs | ldbR1Abs | ldbR2Abs | ldbR3Abs
  | stwAbsR0 | stwAbsR1 | stwAbsR2 | stwAbsR3 | stbAbsR0 | stbAbsR1 | stbAbsR2 | stbAbsR3
  | ldwR0Imm | ldwR1Imm | ldwR2Imm | ldwR3Imm | jsrAddr | jmpAddr => exact .of_word rfl rfl fun _ _ => rfl
  | lslImm a n | aslImm a n | rolImm a n | roxlImm a n | lsrImm a n | asrImm a n | rorImm a n | roxrImm a n =>
    refine .of_shift rfl ((decodeShift_encodeShiftDescr_imm a _ _).trans ?_)
    simp only [shiftImmRow, msb_append_sign, BitVec.extractLsb'_append_eq_right]
    rfl
  | lsReg a b | asReg a b | roReg a b | roxReg a b => exact .of_shift rfl (decodeShift_encodeShiftDescr_reg a _ b)
  | bchgImm a | bclrImm a | bsetImm a | bchgReg a | bclrReg a | bsetReg a =>
    refine .of_bit (a := a) rfl ?_
    rw [decodeBit, bitDescr_encodeBitDescr]
  | shiftR0Descr d | shiftR1Descr d | shiftR2Descr d | shiftR3Descr d =>
    refine .of_shift rfl ?_
    rw [decodeShift, (shiftDescr_eq_none_iff d).mpr h]
    rfl
  | bitR0Descr d | bitR1Descr d | bitR2Descr d | bitR3Descr d =>
    refine .of_bit rfl ?_
    rw [decodeBit, (bitDescr_eq_none_iff d).mpr h]
    rfl
  | _ => exact ⟨_, _, rfl, rfl, fun _ => rfl⟩

/-- Settles O1. -/
theorem decodingAnEncodedInstructionGivesItBack : Obligations.DecodingAnEncodedInstructionGivesItBack :=
  fun _ rest h => (roundTrips_of_wellFormed h).decode_encode rest

/-! ## The opcode map (R95, R108) -/

/-- What holds in each row of the opcode map, of an instruction and its opcode, holds of every decoded instruction. -/
theorem map_decodeOpcode_of_rows {α : Type} (f : Instr → α) (g : Byte → α) {b1 b2 : Byte}
    (hrows : ∀ row < 16, (opcodeRow row b1 b2).map f =
      (List.range 16).map fun col => g (BitVec.ofNat 8 (16 * row + col)))
    (b0 : Byte) : f (decodeOpcode b0 b1 b2) = g b0 := by
  have hcol : b0.toNat % 16 < 16 := Nat.mod_lt _ (by decide)
  have hb0 : BitVec.ofNat 8 (16 * (b0.toNat / 16) + b0.toNat % 16) = b0 := by
    rw [Nat.div_add_mod, BitVec.ofNat_toNat, BitVec.setWidth_eq]
  calc f (decodeOpcode b0 b1 b2)
      = ((opcodeRow (b0.toNat / 16) b1 b2).map f).getD (b0.toNat % 16) (f .nop) := (List.getD_map _ _ f).symm
    _ = g (BitVec.ofNat 8 (16 * (b0.toNat / 16) + b0.toNat % 16)) := by
        rw [hrows _ (by have := b0.isLt; omega)]
        simp [hcol]
    _ = g b0 := by rw [hb0]

/-- A decoded instruction encodes to its opcode and the operand bytes it took. -/
theorem encode_decodeOpcode (b0 b1 b2 : Byte) :
    encode (decodeOpcode b0 b1 b2) = [b0, b1, b2].take (instrLength b0) := by
  obtain ⟨v, rfl, rfl⟩ := exists_word_of_bytes b1 b2
  refine map_decodeOpcode_of_rows encode (fun b => [b, lo v, hi v].take (instrLength b)) (fun row hrow => ?_) b0
  interval_cases row
  all_goals
    simp only [opcodeRow, hi_append_lo, List.map_cons, encode_decodeShift, encode_decodeBit]
    rfl

theorem wellFormed_decodeOpcode (b0 b1 b2 : Byte) : (decodeOpcode b0 b1 b2).wellFormed = true := by
  refine map_decodeOpcode_of_rows Instr.wellFormed (fun _ => true) (fun row hrow => ?_) b0
  interval_cases row
  all_goals
    simp only [opcodeRow, List.map_cons, wellFormed_decodeShift, wellFormed_decodeBit]
    rfl

/-- Settles O2: the instruction takes the bytes of its length and leaves the others. -/
theorem encodingADecodedInstructionGivesTheBytesBack : Obligations.EncodingADecodedInstructionGivesTheBytesBack := by
  intro b0 b1 b2
  refine ⟨_, _, decode_three b0 b1 b2, wellFormed_decodeOpcode b0 b1 b2, ?_⟩
  obtain ⟨n, hn⟩ : ∃ n, instrLength b0 = n + 1 := ⟨_, (Nat.succ_pred_eq_of_pos (instrLength_pos b0)).symm⟩
  rw [encode_decodeOpcode, hn, Nat.add_sub_cancel]
  exact List.take_append_drop (n + 1) [b0, b1, b2]

/-- The length of an instruction in the rows of R91. -/
theorem instrLength_eq (b0 : Byte) : instrLength b0 =
    if b0.toNat ≤ 0x9F then 1
    else if b0.toNat ≤ 0xAF then 2
    else if b0.toNat ≤ 0xBF then 3
    else if b0.toNat ≤ 0xCC ∨ b0.toNat = 0xCE then 1
    else if b0.toNat = 0xCD then 2
    else if b0.toNat = 0xCF then 3
    else if b0.toNat ≤ 0xD3 then 3
    else if b0.toNat ≤ 0xEF then 2
    else if b0.toNat = 0xF3 then 3
    else if b0.toNat = 0xF4 ∨ b0.toNat = 0xF5 ∨ b0.toNat = 0xF6 then 2
    else 1 := by
  revert b0
  decide

/-- Settles O3: three bytes leave what the length of the first does not take. -/
theorem lengthIsAFunctionOfTheFirstByte : Obligations.LengthIsAFunctionOfTheFirstByte := by
  intro b0 b1 b2
  refine ⟨decodeOpcode b0 b1 b2, ?_⟩
  rw [decode_three, instrLength_eq]
  simp only [apply_ite (fun n => [b1, b2].drop (n - 1))]
  rfl

/-! ## Reserved descriptors (R110) -/

/-- A shift opcode and its descriptor decode as `decodeShift` says. -/
theorem decode_shift (a : Reg) (d : Byte) : decode [op (0xD8 + no a), d] = .ok (decodeShift a d, []) := by
  cases a <;> rfl

/-- A bit opcode and its descriptor decode as `decodeBit` says. -/
theorem decode_bit (a : Reg) (d : Byte) : decode [op (0xDC + no a), d] = .ok (decodeBit a d, []) := by
  cases a <;> rfl

theorem exec_decodeShift_reserved (a : Reg) {d : Byte} (s : State) (hd : reservedShiftDescr d = true) :
    exec (decodeShift a d) s = .refused .reservedShiftDescriptor := by
  have hnone := (shiftDescr_eq_none_iff d).mpr hd
  rw [exec_eq_formMeaning, form_decodeShift_reserved hnone, formMeaning, shiftByDescriptor, hnone]

theorem exec_decodeBit_reserved (a : Reg) {d : Byte} (s : State) (hd : reservedBitDescr d = true) :
    exec (decodeBit a d) s = .refused .reservedBitDescriptor := by
  have hnone := (bitDescr_eq_none_iff d).mpr hd
  rw [exec_eq_formMeaning, form_decodeBit_reserved hnone, formMeaning, bitByDescriptor, hnone]

theorem reservedShiftDescr_iff (d : Byte) :
    reservedShiftDescr d = true ↔ d.getLsbD 5 = true ∧ d.extractLsb' 2 3 ≠ 0#3 := by
  simp [reservedShiftDescr]

theorem reservedBitDescr_iff (d : Byte) :
    reservedBitDescr d = true ↔ d.extractLsb' 6 2 = 0#2 ∨ (d.getLsbD 5 = false ∧ d.getLsbD 4 = true) ∨
      (d.getLsbD 5 = true ∧ d.extractLsb' 2 3 ≠ 0#3) := by
  simp [reservedBitDescr, or_assoc]

/-- Settles O48: a reserved descriptor decodes to the raw form, which is refused. -/
theorem reservedDescriptorsAreRefused : Obligations.ReservedDescriptorsAreRefused := by
  intro s a d
  constructor
  · intro hd
    exact ⟨_, decode_shift a d, exec_decodeShift_reserved a s ((reservedShiftDescr_iff d).mpr hd)⟩
  · intro hd
    exact ⟨_, decode_bit a d, exec_decodeBit_reserved a s ((reservedBitDescr_iff d).mpr hd)⟩

/-! ## Written-out words -/

/-- Settles O4: each of the words is the encoding of its instruction, which decodes to it. -/
theorem writtenOutWordsDecode : Obligations.WrittenOutWordsDecode :=
  have decode_encode := fun i h => decodingAnEncodedInstructionGivesItBack i [] h
  ⟨decode_encode .moveR1R0 rfl, decode_encode .addR1R0 rfl, decode_encode .addqR3S3 rfl,
    decode_encode .ldwR0IncR3 rfl, decode_encode (.stwSpR3 0x02) rfl, decode_encode (.ldwR0Abs 0x1234) rfl,
    decode_encode (.trap 0x07) rfl, decode_encode (.jsrAddr 0x5000) rfl, decode_encode (.lsrImm .r1 0x0) rfl,
    decode_encode (.bclrReg .r1 .r2) rfl, decode_encode (.bmi 0xF0) rfl, decode_encode .divs rfl⟩

end Sys2Proof.Machine

/-! SUPPORT. The register move and ALU instructions (40_alu_register.md): the forms of opcodes 0x00 to 0x7F, the flags
of the model against the flags of the statements, and what each family leaves. -/

namespace Sys2Proof.Machine

open Sys2Proof.Spec

/-! ## The opcodes of the register family (R95, R139) -/

/-- The form of opcode `{row, B, A}` (R139). Where the instruction of a row takes two different registers, A = B is
another instruction: SXT, TEST, INV, NEG or ABS. -/
def aluForm (row : Nat) (a b : Reg) : Form :=
  match row with
  | 0 => if a = b then .sxt a else .move a b
  | 1 => if a = b then .test a else .and a b
  | 2 => .xor a b
  | 3 => if a = b then .inv a else .or a b
  | 4 => .add a b
  | 5 => .addq a b.bits
  | 6 => if a = b then .neg a else .sub a b
  | _ => if a = b then .abs a else .cmp a b

/-- Opcode `{row, B, A}` decodes to an instruction of its form. -/
theorem decode_aluOpcode {row : Nat} (hrow : row < 8) (a b : Reg) :
    ∃ i, decode [op (16 * row + 4 * no b + no a)] = .ok (i, []) ∧ i.form = aluForm row a b := by
  interval_cases row
  all_goals
    cases a <;> cases b <;> exact ⟨_, rfl, rfl⟩

/-- An opcode of the register family runs as its form does. -/
theorem runs_alu {row : Nat} {a b : Reg} {f : Form} {s t : State} (hrow : row < 8) (hf : aluForm row a b = f)
    (ht : formMeaning f s = .next t) : Runs [op (16 * row + 4 * no b + no a)] s t := by
  obtain ⟨i, hi, hform⟩ := decode_aluOpcode hrow a b
  exact ⟨i, hi, by rw [exec_eq_formMeaning, hform, hf, ht]⟩

/-- An opcode whose two register fields are one runs as its form does. -/
theorem runs_alu_diagonal {row : Nat} {a : Reg} {f : Form} {s t : State} (hrow : row < 8) (hf : aluForm row a a = f)
    (ht : formMeaning f s = .next t) : Runs [op (16 * row + 5 * no a)] s t := by
  have hfields : 16 * row + 5 * no a = 16 * row + 4 * no a + no a := by omega
  rw [hfields]
  exact runs_alu hrow hf ht

/-! ## The flags (R10, R33) -/

/-- N is bit 15 of the result (R10). -/
theorem Flags.setZN_eq_zn (f : Flags) (r : Word) : f.setZN r = zn f r := by
  rw [Flags.setZN, BitVec.msb_eq_getLsbD_last]
  rfl

theorem State.result_eq (s : State) (a : Reg) (r : Word) : s.result a r = .next (Spec.result s a r) := by
  rw [State.result, Spec.result, ← Flags.setZN_eq_zn]
  rfl

/-- The overflow of `Add16` in bits 15 (R10). -/
theorem add16_v (a b : Word) (cin : Bool) : (add16 a b cin).v = addOverflow a b (add16 a b cin).r := by
  simp [add16, addOverflow, BitVec.msb_eq_getLsbD_last, bne, beq_eq_decide]

/-- The overflow of `Sub16` in bits 15 (R10). -/
theorem sub16_v (a b : Word) (bin : Bool) : (sub16 a b bin).v = subOverflow a b (sub16 a b bin).r := by
  simp [sub16, subOverflow, BitVec.msb_eq_getLsbD_last, bne, beq_eq_decide]

/-- The difference of `Sub16` is that of the words. -/
theorem sub16_r (a b : Word) (bin : Bool) : (sub16 a b bin).r = a - b - BitVec.ofNat 16 bin.toNat := by
  simp only [sub16, Int.sub_eq_add_neg, BitVec.ofInt_add, BitVec.ofInt_neg, BitVec.ofInt_natCast, BitVec.ofNat_toNat,
    BitVec.setWidth_eq, BitVec.sub_eq_add_neg]

/-- `Sub16` borrows where the first number is below what is taken from it. -/
theorem sub16_c (a b : Word) (bin : Bool) : (sub16 a b bin).c = decide (a.toNat < b.toNat + bin.toNat) := by
  simp only [sub16, decide_eq_decide]
  omega

theorem Flags.setCompare_sub16 (f : Flags) (a b : Word) (bin : Bool) :
    f.setCompare (sub16 a b bin) = differenceFlags f a b bin.toNat := by
  rw [Flags.setCompare, Flags.setZN_eq_zn, sub16_v, sub16_c, sub16_r]
  rfl

/-- A sum written with its flags (R33, R36). -/
theorem State.sumResult_add16 (s : State) (d : Reg) (a b : Word) (cin : Bool) :
    s.sumResult d (add16 a b cin) = .next (summed s d a b cin.toNat) := by
  rw [State.sumResult, Flags.setSum, Flags.setZN_eq_zn, add16_v]
  rfl

/-- A difference written with its flags: those of CMP, and X a copy of the borrow (R33, R36). -/
theorem State.sumResult_sub16 (s : State) (d : Reg) (a b : Word) (bin : Bool) :
    s.sumResult d (sub16 a b bin) = .next (subtracted s d a b bin.toNat) := by
  have hps : s.ps.setSum (sub16 a b bin) = { s.ps.setCompare (sub16 a b bin) with x := (sub16 a b bin).c } := rfl
  rw [State.sumResult, hps, Flags.setCompare_sub16, sub16_r, sub16_c]
  rfl

/-! ## MOVE, SXT, TEST (R130 to R132) -/

/-- Settles O15: MOVE off the diagonal of row 0, SXT on it. -/
theorem moveCopiesAndSxtSignExtends : Obligations.MoveCopiesAndSxtSignExtends := by
  intro a b s
  exact ⟨fun hab => runs_alu (row := 0) (by decide) (if_neg hab) (s.result_eq a _),
    runs_alu_diagonal (row := 0) (by decide) (if_pos rfl) (s.result_eq a _)⟩

/-- Settles O16: the diagonal of row 1. -/
theorem testSetsZAndNOnly : Obligations.TestSetsZAndNOnly := by
  intro a s
  refine runs_alu_diagonal (row := 1) (by decide) (if_pos rfl) ?_
  rw [formMeaning, testReg, State.setZN, Flags.setZN_eq_zn]
  rfl

/-! ## AND, XOR, OR, INV (R133 to R136) -/

/-- Settles O17: AND in row 1 and OR with INV in row 3 off and on the diagonal, XOR in all of row 2. -/
theorem logicInstructionsCombineRegisters : Obligations.LogicInstructionsCombineRegisters := by
  intro a b s
  exact ⟨fun hab => runs_alu (row := 1) (by decide) (if_neg hab) (s.result_eq a _),
    runs_alu (row := 2) (by decide) rfl (s.result_eq a _),
    fun hab => runs_alu (row := 3) (by decide) (if_neg hab) (s.result_eq a _),
    runs_alu_diagonal (row := 3) (by decide) (if_pos rfl) (s.result_eq a _)⟩

/-! ## ADD, ADDQ, SUB, NEG (R138, R141 to R143) -/

/-- Settles O18: all of row 4. -/
theorem addSumsRegisters : Obligations.AddSumsRegisters := by
  intro a b s
  exact runs_alu (row := 4) (by decide) rfl (s.sumResult_add16 a _ _ false)

/-- In row 5 the field of RB is the selector of ADDQ (R97, R141), and its constant is added. -/
theorem runs_addq (a b : Reg) (s : State) :
    Runs [op (16 * 5 + 4 * no b + no a)] s (summed s a (s.regs.get a) (s.quickConstant b.bits) 0) :=
  runs_alu (by decide) rfl (s.sumResult_add16 a _ _ false)

/-- Settles O19: selectors 0 to 3 are the fields of R0 to R3. -/
theorem addqAddsItsConstant : Obligations.AddqAddsItsConstant := by
  intro a s
  exact ⟨runs_addq a .r0 s, runs_addq a .r1 s, runs_addq a .r2 s, runs_addq a .r3 s⟩

/-- Settles O20: SUB off the diagonal of row 6, NEG on it. -/
theorem subAndNegSubtract : Obligations.SubAndNegSubtract := by
  intro a b s
  exact ⟨fun hab => runs_alu (row := 6) (by decide) (if_neg hab) (s.sumResult_sub16 a _ _ false),
    runs_alu_diagonal (row := 6) (by decide) (if_pos rfl) (s.sumResult_sub16 a _ _ false)⟩

/-! ## ABS, CMP (R144, R145) -/

/-- The word of ABS is the absolute value of the signed number (R144), 32768 for 0x8000. -/
theorem abs_eq_natAbs (v : Word) : (if v.msb then 0#16 - v else v) = BitVec.ofNat 16 v.toInt.natAbs := by
  have hv : v.toNat < 65536 := v.isLt
  apply BitVec.eq_of_toNat_eq
  rw [BitVec.toInt_eq_msb_cond, BitVec.toNat_ofNat]
  cases v.msb with
  | false =>
    simp only [Bool.false_eq_true, if_false]
    omega
  | true =>
    simp only [if_true, BitVec.toNat_sub, BitVec.toNat_ofNat]
    omega

/-- Settles O21: the diagonal of row 7. -/
theorem absTakesTheAbsoluteValue : Obligations.AbsTakesTheAbsoluteValue := by
  intro a s
  refine runs_alu_diagonal (row := 7) (by decide) (if_pos rfl) ?_
  rw [formMeaning, absReg, abs_eq_natAbs, Flags.setZN_eq_zn]
  rfl

/-- Settles O22: row 7 off its diagonal. -/
theorem cmpComparesRegisters : Obligations.CmpComparesRegisters := by
  intro a b s hab
  refine runs_alu (row := 7) (by decide) (if_neg hab) ?_
  rw [formMeaning, compareReg, Flags.setCompare_sub16]
  rfl

end Sys2Proof.Machine

/-! SUPPORT. The loads and stores (41_load_store.md): the forms of opcodes 0x80 to 0xBF, what an access of either width
leaves under any addressing mode, and that an instruction that stores nothing keeps memory. -/

namespace Sys2Proof.Machine

open Sys2Proof.Spec

/-! ## The opcodes of the load and store groups (R95, R98, R99) -/

/-- The bytes decode to one instruction of form `f`, with nothing left over. -/
def DecodesTo (bytes : List Byte) (f : Form) : Prop := ∃ i, decode bytes = .ok (i, []) ∧ i.form = f

/-- Bytes run as the form they decode to. -/
theorem DecodesTo.runs {bytes : List Byte} {f : Form} {s t : State} (h : DecodesTo bytes f)
    (ht : formMeaning f s = .next t) : Runs bytes s t := by
  obtain ⟨i, hi, rfl⟩ := h
  exact ⟨i, hi, (exec_eq_formMeaning i s).trans ht⟩

/-- The access that the fields S and Z of an opcode name, read as one number (R98): loads of a word and of a byte, then
the two stores. -/
def accessForm (sz : Nat) (d : Reg) (ea : EA) : Form :=
  match sz with
  | 0 => .load .word d ea
  | 1 => .load .byte d ea
  | 2 => .store .word ea d
  | _ => .store .byte ea d

section

variable {sz : Nat} (hsz : sz < 4)
include hsz

/-- Group 8: RI and RD in one bit each (R99). -/
theorem decodesTo_ind {i d : Reg × Nat} (hi : i = (.r2, 0) ∨ i = (.r3, 1)) (hd : d = (.r0, 0) ∨ d = (.r1, 1)) :
    DecodesTo [op (0x80 + 4 * sz + 2 * i.2 + d.2)] (accessForm sz d.1 (.ind i.1)) := by
  interval_cases sz
  all_goals
    obtain rfl | rfl := hi <;> obtain rfl | rfl := hd <;> exact ⟨_, rfl, rfl⟩

/-- Group 9: the fields of group 8. -/
theorem decodesTo_postInc {i d : Reg × Nat} (hi : i = (.r2, 0) ∨ i = (.r3, 1))
    (hd : d = (.r0, 0) ∨ d = (.r1, 1)) :
    DecodesTo [op (0x90 + 4 * sz + 2 * i.2 + d.2)] (accessForm sz d.1 (.postInc i.1)) := by
  interval_cases sz
  all_goals
    obtain rfl | rfl := hi <;> obtain rfl | rfl := hd <;> exact ⟨_, rfl, rfl⟩

/-- Group A: RD in two bits, then the offset. -/
theorem decodesTo_spRel (d : Reg) (m : Byte) :
    DecodesTo [op (0xA0 + 4 * sz + no d), m] (accessForm sz d (.spRel m)) := by
  interval_cases sz
  all_goals
    cases d <;> exact ⟨_, rfl, rfl⟩

/-- Group B: RD in two bits, then the address, low byte first (R94). -/
theorem decodesTo_abs (d : Reg) (addr : Word) :
    DecodesTo [op (0xB0 + 4 * sz + no d), lo addr, hi addr] (accessForm sz d (.abs addr)) := by
  have hbytes : ∀ b1 b2 : Byte,
      DecodesTo [op (0xB0 + 4 * sz + no d), b1, b2] (accessForm sz d (.abs (b2 ++ b1))) := by
    intro b1 b2
    interval_cases sz
    all_goals
      cases d <;> exact ⟨_, rfl, rfl⟩
  have haddr := hbytes (lo addr) (hi addr)
  rwa [hi_append_lo] at haddr

end

/-! ## Loads (R170, R171, R174, R175, R178, R179, R182, R183) -/

/-- The value an access of a width reads (R62, R67): a little-endian word, or a byte with zeros above it. -/
def State.accessValue (s : State) (w : Width) (a : Word) : Word :=
  match w with
  | .word => s.byte (a + 1#16) ++ s.byte a
  | .byte => (s.byte a).setWidth 16

/-- A load of either width goes on with the value at its address. -/
theorem State.loadSized_eq {s : State} {w : Width} {a : Word} (k : Word → Result)
    (h : s.readable a (accessBytes w) = true) : s.loadSized w a k = k (s.accessValue w a) := by
  cases w with
  | word => exact State.loadWord_eq k h
  | byte => exact State.loadByte_eq k h

/-- A register and Z, N written from one value (R33). -/
theorem State.setReg_setZN (s : State) (d : Reg) (v : Word) : (s.setReg d v).setZN v = Spec.result s d v :=
  Host.Outcome.next.inj (s.result_eq d v)

/-- A load leaves the value it read as a result (R188), and then the increment of its addressing mode (R189). -/
theorem DecodesTo.runs_load {bytes : List Byte} {w : Width} {d : Reg} {ea : EA} {s : State}
    (h : DecodesTo bytes (.load w d ea)) (hread : s.readable (s.address ea) (accessBytes w) = true) :
    Runs bytes s ((result s d (s.accessValue w (s.address ea))).bump w (s.address ea) ea) := by
  refine h.runs ?_
  rw [formMeaning, load, State.loadSized_eq _ hread, State.setReg_setZN]

/-- Settles O24: group 8 with S = 0. -/
theorem loadIndirectReadsMemory : Obligations.LoadIndirectReadsMemory := by
  intro s i d hi hd
  exact ⟨(decodesTo_ind (sz := 0) (by decide) hi hd).runs_load,
    (decodesTo_ind (sz := 1) (by decide) hi hd).runs_load⟩

/-- Settles O25: group 9 with S = 0. -/
theorem loadPostIncrementReadsThenIncrements : Obligations.LoadPostIncrementReadsThenIncrements := by
  intro s i d hi hd
  exact ⟨(decodesTo_postInc (sz := 0) (by decide) hi hd).runs_load,
    (decodesTo_postInc (sz := 1) (by decide) hi hd).runs_load⟩

/-- The offset from SP is unsigned (R187). -/
theorem State.address_spRel (s : State) (m : Byte) : s.address (.spRel m) = s.sp + BitVec.ofNat 16 m.toNat :=
  congrArg (s.sp + ·) (BitVec.ofNat_toNat 16 m).symm

/-- Settles O26: groups A and B with S = 0. -/
theorem loadStackRelativeAndAbsoluteReadMemory : Obligations.LoadStackRelativeAndAbsoluteReadMemory := by
  intro s d m addr
  rw [← State.address_spRel]
  exact ⟨(decodesTo_spRel (sz := 0) (by decide) d m).runs_load,
    (decodesTo_spRel (sz := 1) (by decide) d m).runs_load,
    (decodesTo_abs (sz := 0) (by decide) d addr).runs_load,
    (decodesTo_abs (sz := 1) (by decide) d addr).runs_load⟩

/-! ## Stores (R172, R173, R176, R177, R180, R181, R184, R185) -/

/-- The bytes of `s` after an access of a width stored `v` at `a` (R62, R67). -/
def State.byteAfterStore (s : State) (w : Width) (a v : Word) : Word → Byte :=
  match w with
  | .word => wordAt s a v
  | .byte => fun x => if x = a then lo v else s.byte x

/-- The machine after an access of a width stored `v` at `a`. -/
def State.stored (s : State) (w : Width) (a v : Word) : State :=
  match w with
  | .word => s.putWord a v
  | .byte => s.putByte a (lo v)

/-- A store of either width goes on with the machine it stored in. -/
theorem State.storeSized_eq {s : State} {w : Width} {a : Word} (v : Word) (k : State → Result)
    (h : s.writable a (accessBytes w) = true) : s.storeSized w a v k = k (s.stored w a v) := by
  cases w with
  | word => exact State.storeWord_eq v k h
  | byte => exact State.storeByte_eq v k h

/-- A store writes memory alone. -/
theorem State.stored_eq_with_mem (s : State) (w : Width) (a v : Word) :
    s.stored w a v = { s with mem := (s.stored w a v).mem } := by
  cases w <;> rfl

/-- A store writes its own bytes alone. -/
theorem State.stored_byte {s : State} (hs : Memory.wf s.mem = true) (w : Width) (a v x : Word) :
    (s.stored w a v).byte x = s.byteAfterStore w a v x := by
  cases w with
  | word => exact State.putWord_byte hs a x v
  | byte => exact State.putByte_byte hs a x (lo v)

/-- The increment of an addressing mode (R189) does not depend on memory. -/
theorem State.bump_with_mem (s : State) (m : Memory) (w : Width) (a : Word) (ea : EA) :
    State.bump { s with mem := m } w a ea = { s.bump w a ea with mem := m } := by
  cases ea <;> rfl

/-- An increment leaves every byte of memory. -/
theorem State.bump_byte (s : State) (w : Width) (a : Word) (ea : EA) (x : Word) :
    (s.bump w a ea).byte x = s.byte x := by
  rw [State.byte, State.bump_mem, State.byte]

/-- A store changes its own bytes (R67) and makes the increment of its addressing mode (R189), nothing else (R188). -/
theorem DecodesTo.runsStoring_store {bytes : List Byte} {w : Width} {d : Reg} {ea : EA} {s : State}
    (h : DecodesTo bytes (.store w ea d)) (hs : s.wf = true)
    (hwrite : s.writable (s.address ea) (accessBytes w) = true) :
    RunsStoring bytes s (s.bump w (s.address ea) ea) (s.byteAfterStore w (s.address ea) (s.reg d)) := by
  obtain ⟨i, hi, hform⟩ := h
  refine ⟨i, (s.stored w (s.address ea) (s.reg d)).bump w (s.address ea) ea, hi, ?_, ?_, fun x => ?_⟩
  · rw [exec_eq_formMeaning, hform, formMeaning, store, State.storeSized_eq _ _ hwrite]
  · rw [State.bump_mem, ← State.bump_with_mem, ← State.stored_eq_with_mem]
  · rw [State.bump_byte, State.stored_byte (s.wf_iff.mp hs).1]

/-- Settles O27: group 8 with S = 1. -/
theorem storeIndirectWritesItsBytesOnly : Obligations.StoreIndirectWritesItsBytesOnly := by
  intro s i d hs hi hd
  exact ⟨(decodesTo_ind (sz := 2) (by decide) hi hd).runsStoring_store hs,
    (decodesTo_ind (sz := 3) (by decide) hi hd).runsStoring_store hs⟩

/-- Settles O28: group 9 with S = 1. -/
theorem storePostIncrementWritesThenIncrements : Obligations.StorePostIncrementWritesThenIncrements := by
  intro s i d hs hi hd
  exact ⟨(decodesTo_postInc (sz := 2) (by decide) hi hd).runsStoring_store hs,
    (decodesTo_postInc (sz := 3) (by decide) hi hd).runsStoring_store hs⟩

/-- Settles O29: groups A and B with S = 1. -/
theorem storeStackRelativeAndAbsoluteWriteTheirBytesOnly :
    Obligations.StoreStackRelativeAndAbsoluteWriteTheirBytesOnly := by
  intro s d m addr hs
  rw [← State.address_spRel]
  exact ⟨(decodesTo_spRel (sz := 2) (by decide) d m).runsStoring_store hs,
    (decodesTo_spRel (sz := 3) (by decide) d m).runsStoring_store hs,
    (decodesTo_abs (sz := 2) (by decide) d addr).runsStoring_store hs,
    (decodesTo_abs (sz := 3) (by decide) d addr).runsStoring_store hs⟩

/-! ## The instructions that store nothing -/

/-- DIVU with a divisor that is not zero stores nothing (R310). -/
theorem execDivu_mem {s t : State} (hr1 : s.reg .r1 ≠ 0#16) (h : execDivu s = .next t) : t.mem = s.mem := by
  rw [execDivu, if_neg hr1] at h
  cases h
  rfl

/-- DIVS with a divisor that is not zero stores nothing (R311). -/
theorem execDivs_mem {s t : State} (hr1 : s.reg .r1 ≠ 0#16) (h : execDivs s = .next t) : t.mem = s.mem := by
  rw [execDivs, if_neg hr1] at h
  cases h
  rfl

/-- A form that stores nothing keeps memory. -/
theorem formMeaning_keeps_mem {f : Form} {s t : State} (hstore : storesAlways f = false)
    (hdivide : divides f = true → s.reg .r1 ≠ 0#16) (h : formMeaning f s = .next t) : t.mem = s.mem := by
  cases f with
  | store | push | pushPs | trap | jsrR0 | jsrAddr => cases hstore
  | sxt | move | test | and | xor | inv | or | add | addq | neg | sub | abs | cmp | loadImmW | loadImmB | bit | nopC5
  | moveR0Sp | moveSpR0 | jmpR0 | jmpAddr | andiPs | oriPs | addiSp | sqrt | mulu | muls | addx | subx | negx | nop =>
    cases h
    rfl
  | load w d ea =>
    obtain ⟨v, rfl⟩ := load_next h
    exact State.bump_mem _ w _ ea
  | pop =>
    obtain rfl := popReg_next h
    rfl
  | popPs =>
    obtain rfl := popStatus_next h
    rfl
  | ret =>
    obtain rfl := returnFromSubroutine_next h
    rfl
  | reti =>
    obtain ⟨-, -, rfl⟩ := State.returnFromTrap_next h
    rfl
  | branch =>
    obtain ⟨p, rfl⟩ := branchIf_next h
    rfl
  | shift => exact shiftReg_mem h
  | shiftRaw =>
    obtain ⟨k, c, h⟩ := shiftByDescriptor_next h
    exact shiftReg_mem h
  | bitRaw =>
    obtain ⟨o, n, h⟩ := bitByDescriptor_next h
    cases h
    rfl
  | divu => exact execDivu_mem (hdivide rfl) h
  | divs => exact execDivs_mem (hdivide rfl) h

/-- Settles O13: by the form of the instruction; a byte is read from memory alone. -/
theorem onlyStoringInstructionsChangeMemory : Obligations.OnlyStoringInstructionsChangeMemory := by
  intro i s t hstore hdivide h x
  have hmem : t.mem = s.mem := formMeaning_keeps_mem hstore hdivide (exec_eq_formMeaning i s ▸ h)
  rw [State.byte, hmem, State.byte]

end Sys2Proof.Machine

/-! SUPPORT. The stack and subroutine instructions (42_stack_subroutine.md): the forms of opcodes 0xC0 to 0xCF, what each
of their meanings answers, and that RET undoes JSR. -/

namespace Sys2Proof.Machine

open Sys2Proof.Spec

/-! ## Accesses to the stack (R66, R71) -/

/-- Bytes in a row can be read where their first part and the rest can. -/
theorem State.readable_add (s : State) (a : Word) (m n : Nat) :
    s.readable a (m + n) = (s.readable a m && s.readable (a + BitVec.ofNat 16 m) n) := by
  induction m generalizing a with
  | zero => simp [State.readable]
  | succ m ih =>
    have hnext : a + 1#16 + BitVec.ofNat 16 m = a + BitVec.ofNat 16 (m + 1) := by
      rw [BitVec.add_assoc, ← BitVec.ofNat_add, Nat.add_comm 1 m]
    rw [Nat.add_right_comm, State.readable, State.readable, ih, hnext, Bool.and_assoc]

/-- Bytes that can be written can be read. -/
theorem State.readable_of_writable {s : State} {a : Word} {n : Nat} (h : s.writable a n = true) :
    s.readable a n = true := by
  induction n generalizing a with
  | zero => rfl
  | succ n ih =>
    rw [State.writable, Bool.and_eq_true] at h
    rw [State.readable, Config.Params.canRead_of_canWrite h.1, ih h.2, Bool.and_self]

/-- A word that was stored reads back (R62). -/
theorem State.putWord_word {s : State} (hs : Memory.wf s.mem = true) (a w : Word) : (s.putWord a w).word a = w := by
  have hne : a + 1#16 ≠ a := by bv_omega
  rw [State.word, State.putWord_byte hs, State.putWord_byte hs, if_neg hne, if_pos rfl, if_pos rfl]
  exact hi_append_lo w

/-! ## The opcodes of the stack group (R95, R100) -/

/-- POP RA: A in the low two bits. -/
theorem decodesTo_pop (a : Reg) : DecodesTo [op (0xC0 + no a)] (.pop a) := by
  cases a <;> exact ⟨_, rfl, rfl⟩

/-- PUSH RA: A in the low two bits. -/
theorem decodesTo_push (a : Reg) : DecodesTo [op (0xC8 + no a)] (.push a) := by
  cases a <;> exact ⟨_, rfl, rfl⟩

/-- JSR addr: the address after the opcode, low byte first (R94). -/
theorem decodesTo_jsrAddr (addr : Word) : DecodesTo [0xCF, lo addr, hi addr] (.jsrAddr addr) := by
  have hbytes : ∀ b1 b2 : Byte, DecodesTo [0xCF, b1, b2] (.jsrAddr (b2 ++ b1)) := fun _ _ => ⟨_, rfl, rfl⟩
  have haddr := hbytes (lo addr) (hi addr)
  rwa [hi_append_lo] at haddr

/-! ## Pops (R200, R201, R203, R205) -/

section

variable {s : State} (h : s.readable s.sp 2 = true)
include h

theorem popReg_eq (a : Reg) :
    popReg a s = .next { s with regs := s.regs.set a (s.word s.sp), sp := s.sp + 2#16 } := State.pop16_eq _ h

theorem popStatus_eq :
    popStatus s = .next { s with ps := Flags.ofImage s.params.psLayout (s.word s.sp), sp := s.sp + 2#16 } :=
  State.pop16_eq _ h

theorem returnFromSubroutine_eq :
    returnFromSubroutine s = .next { s with pc := s.word s.sp, sp := s.sp + 2#16 } := State.pop16_eq _ h

end

/-- Settles O30: both pop one word. -/
theorem popAndRetReadTheTopWord : Obligations.PopAndRetReadTheTopWord := by
  intro s a hread
  have hret : DecodesTo [0xC6] .ret := ⟨_, rfl, rfl⟩
  exact ⟨(decodesTo_pop a).runs (popReg_eq hread a), hret.runs (returnFromSubroutine_eq hread)⟩

/-- Settles O31: the word popped is an image of the flags. -/
theorem popPsLoadsTheSevenFlags : Obligations.PopPsLoadsTheSevenFlags := by
  intro s hread
  have hpop : DecodesTo [0xC4] .popPs := ⟨_, rfl, rfl⟩
  exact hpop.runs (popStatus_eq hread)

/-- RETI's two pops, their addresses counted from the stack pointer it found. -/
theorem State.returned_eq (s : State) :
    s.returned = { s with
      pc := s.byte (s.sp + 3#16) ++ s.byte (s.sp + 2#16)
      sp := s.sp + 4#16
      ps := Flags.ofImage s.params.psLayout (s.word s.sp) } := by
  have hsp : s.sp + 2#16 + 2#16 = s.sp + 4#16 := BitVec.add_assoc _ _ _
  have hhigh : s.sp + 2#16 + 1#16 = s.sp + 3#16 := BitVec.add_assoc _ _ _
  have hpc : s.word (s.sp + 2#16) = s.byte (s.sp + 3#16) ++ s.byte (s.sp + 2#16) := by rw [State.word, hhigh]
  rw [State.returned, hsp, hpc]

/-- Settles O32: two words are popped, and all four bytes can be read. -/
theorem retiPopsPsThenPc : Obligations.RetiPopsPsThenPc := by
  intro s hread
  have hreti : DecodesTo [0xC7] .reti := ⟨_, rfl, rfl⟩
  obtain ⟨hps, hpc⟩ := Bool.and_eq_true_iff.mp ((s.readable_add s.sp 2 2).symm.trans hread)
  exact hreti.runs ((State.returnFromTrap_eq hps hpc).trans (congrArg _ s.returned_eq))

/-! ## Pushes (R206, R207, R209, R210) -/

/-- Bytes whose form stores one word, and leaves `t` but for memory, store that word and no other byte. -/
theorem DecodesTo.runsStoring_word {bytes : List Byte} {f : Form} {s t : State} {a v : Word} (h : DecodesTo bytes f)
    (hs : s.wf = true) (ht : formMeaning f s = .next { t with mem := (s.putWord a v).mem }) :
    RunsStoring bytes s t (wordAt s a v) := by
  obtain ⟨i, hi, rfl⟩ := h
  exact ⟨i, _, hi, (exec_eq_formMeaning i s).trans ht, rfl, fun x => State.putWord_byte (s.wf_iff.mp hs).1 a x v⟩

section

variable {s : State} (h : s.writable (s.sp - 2#16) 2 = true)
include h

theorem pushReg_eq (a : Reg) :
    pushReg a s = .next { s with sp := s.sp - 2#16, mem := (s.putWord (s.sp - 2#16) (s.regs.get a)).mem } :=
  State.push16_eq _ _ h

theorem pushStatus_eq :
    pushStatus s = .next { s with
      sp := s.sp - 2#16, psDraws := s.psDraws + 1, mem := (s.putWord (s.sp - 2#16) s.psWord).mem } :=
  State.pushPsWord_eq _ h

theorem callAddress_eq (addr : Word) :
    callAddress addr s = .next { s with
      sp := s.sp - 2#16, pc := addr, mem := (s.putWord (s.sp - 2#16) s.pc).mem } :=
  State.push16_eq _ _ h

end

/-- Settles O33: the word pushed is the register's. -/
theorem pushStoresARegisterBelowSp : Obligations.PushStoresARegisterBelowSp := by
  intro s a hs hwrite
  exact (decodesTo_push a).runsStoring_word hs (pushReg_eq hwrite a)

/-- Settles O34: the word pushed is the image of the flags, drawn once. -/
theorem pushPsStoresThePsWord : Obligations.PushPsStoresThePsWord := by
  intro s hs hwrite
  have hpush : DecodesTo [0xCC] .pushPs := ⟨_, rfl, rfl⟩
  exact hpush.runsStoring_word hs (pushStatus_eq hwrite)

/-! ## Subroutines (R203, R209, R210) -/

/-- Settles O38: both call an address, one of them that in R0. -/
theorem jsrPushesTheReturnAddress : Obligations.JsrPushesTheReturnAddress := by
  intro s addr hs hwrite
  have hjsr : DecodesTo [0xCE] .jsrR0 := ⟨_, rfl, rfl⟩
  exact ⟨hjsr.runsStoring_word hs (callAddress_eq hwrite (s.regs.get .r0)),
    (decodesTo_jsrAddr addr).runsStoring_word hs (callAddress_eq hwrite addr)⟩

/-- After a call, whatever its target, RET pops the address the call pushed: all is as it was but memory. -/
theorem returnFromSubroutine_callAddress {s t : State} {addr : Word} (hs : Memory.wf s.mem = true)
    (h : callAddress addr s = .next t) : returnFromSubroutine t = .next { s with mem := t.mem } := by
  have hwrite : s.writable (s.sp - 2#16) 2 = true := (State.push16_next h).1
  have ht := (Host.Outcome.next.inj ((callAddress_eq hwrite addr).symm.trans h)).symm
  have hread : t.readable t.sp 2 = true := by
    rw [ht]
    exact (State.readable_congr (t := s) rfl _ _).trans (State.readable_of_writable hwrite)
  have hpc : t.word t.sp = s.pc := by
    rw [ht]
    exact State.putWord_word hs _ _
  have hsp : t.sp + 2#16 = s.sp := by
    rw [ht]
    exact BitVec.sub_add_cancel _ _
  rw [returnFromSubroutine_eq hread, hpc, hsp, ht]

/-- Settles O39: either JSR is a call, and RET gives back all but memory. -/
theorem retReturnsFromJsr : Obligations.RetReturnsFromJsr := by
  intro s t addr hs hjsr
  obtain ⟨target, hcall⟩ : ∃ target, callAddress target s = .next t := by
    obtain h | h := hjsr
    · exact ⟨_, h⟩
    · exact ⟨_, h⟩
  exact ⟨_, returnFromSubroutine_callAddress (s.wf_iff.mp hs).1 hcall, rfl, rfl, rfl, rfl⟩

/-! ## NOP (R202, R315) -/

/-- Settles O40: neither NOP acts, so that a step over one is its fetch. -/
theorem nopsOnlyAdvancePc : Obligations.NopsOnlyAdvancePc := by
  intro s
  refine ⟨⟨.nopC5, rfl, rfl⟩, ⟨.nop, rfl, rfl⟩, fun hread hbyte => ?_⟩
  obtain hbyte | hbyte := hbyte
  · exact stepRunsTheDecodedInstruction s .nopC5 _ (by rw [hbyte]; rfl) hread
  · exact stepRunsTheDecodedInstruction s .nop _ (by rw [hbyte]; rfl) hread

end Sys2Proof.Machine

/-! SUPPORT. The immediate loads, the shifts and the bit instructions (43_immediate_shift_bit.md): what the descriptor
bytes name, what the steps of a shift add up to, and what each family leaves. -/

namespace Sys2Proof.Machine

open Sys2Proof.Spec

/-! ## Immediate loads (R230, R231) -/

/-- LD.W RA, #data: the data after the opcode, low byte first (R94). -/
theorem decodesTo_loadImmW (a : Reg) (v : Word) : DecodesTo [op (0xD0 + no a), lo v, hi v] (.loadImmW a v) := by
  have hbytes : ∀ b1 b2 : Byte, DecodesTo [op (0xD0 + no a), b1, b2] (.loadImmW a (b2 ++ b1)) := by
    intro b1 b2
    cases a <;> exact ⟨_, rfl, rfl⟩
  have hdata := hbytes (lo v) (hi v)
  rwa [hi_append_lo] at hdata

/-- LD.B RA, #data. -/
theorem decodesTo_loadImmB (a : Reg) (b : Byte) : DecodesTo [op (0xD4 + no a), b] (.loadImmB a b) := by
  cases a <;> exact ⟨_, rfl, rfl⟩

theorem loadImmediate_eq (a : Reg) (v : Word) (s : State) : loadImmediate a v s = .next (result s a v) :=
  congrArg Host.Outcome.next (s.setReg_setZN a v)

/-- Settles O41: the data is the result, a byte with zeros above it. -/
theorem loadImmediateLoadsItsData : Obligations.LoadImmediateLoadsItsData := by
  intro s a v b
  exact ⟨(decodesTo_loadImmW a v).runs (loadImmediate_eq a v s),
    (decodesTo_loadImmB a b).runs (loadImmediate_eq a (zext16 b) s)⟩

/-! ## Descriptors (R105 to R107, R232, R233) -/

/-- A decoded shift does what its descriptor says, be it reserved or not. -/
theorem exec_decodeShift (a : Reg) (d : Byte) (s : State) : exec (decodeShift a d) s = shiftByDescriptor a d s := by
  rw [exec_eq_formMeaning]
  cases h : shiftDescr d with
  | none => rw [form_decodeShift_reserved h, formMeaning]
  | some kc => rw [form_decodeShift h, formMeaning, shiftByDescriptor, h]

/-- A decoded bit instruction does what its descriptor says. -/
theorem exec_decodeBit (a : Reg) (d : Byte) (s : State) : exec (decodeBit a d) s = bitByDescriptor a d s := by
  rw [exec_eq_formMeaning]
  cases h : bitDescr d with
  | none => rw [form_decodeBit_reserved h, formMeaning]
  | some on => rw [form_decodeBit h, formMeaning, bitByDescriptor, h]

/-- Settles O49: a raw form and the instruction its bytes decode to both do what the descriptor says. -/
theorem rawDescriptorFormsDoWhatTheirBytesDecodeTo : Obligations.RawDescriptorFormsDoWhatTheirBytesDecodeTo := by
  intro i s a d
  rw [exec_eq_formMeaning]
  refine ⟨fun hform hd => ?_, fun hform hd => ?_⟩
  · obtain ⟨t, ht⟩ := shiftByDescriptor_completes a s hd
    exact ⟨_, t, decode_shift a d, (exec_decodeShift a d s).trans ht, by rw [hform, formMeaning, ht]⟩
  · obtain ⟨t, ht⟩ := bitByDescriptor_completes a s hd
    exact ⟨_, t, decode_bit a d, (exec_decodeBit a d s).trans ht, by rw [hform, formMeaning, ht]⟩

/-- The descriptor of a shift by a five-bit count, as a number. -/
theorem encodeShiftDescr_imm (k : ShiftKind) {m : Nat} (hm : m < 32) :
    encodeShiftDescr k (.imm (BitVec.ofNat 5 m)) = op (64 * k.bits.toNat + m) := by
  cases k <;> interval_cases m <;> rfl

/-- The descriptor of a shift by a register, as a number. -/
theorem encodeShiftDescr_reg (k : ShiftKind) (b : Reg) :
    encodeShiftDescr k (.reg b) = op (64 * k.bits.toNat + 32 + no b) := by
  cases k <;> cases b <;> rfl

/-- The descriptor of a bit instruction by number, as a number. -/
theorem encodeBitDescr_imm (o : BitOp) {n : Nat} (hn : n < 16) :
    encodeBitDescr o (.imm (BitVec.ofNat 4 n)) = op (64 * o.bits.toNat + n) := by
  cases o <;> interval_cases n <;> rfl

/-- The descriptor of a bit instruction by a register, as a number. -/
theorem encodeBitDescr_reg (o : BitOp) (b : Reg) :
    encodeBitDescr o (.reg b) = op (64 * o.bits.toNat + 32 + no b) := by
  cases o <;> cases b <;> rfl

/-- The low bits of a register hold its value modulo a power of two. -/
theorem extractLsb'_zero_eq_ofNat (v : Word) {w m : Nat} (h : v.toNat % 2 ^ w = m) :
    v.extractLsb' 0 w = BitVec.ofNat w m := by
  apply BitVec.eq_of_toNat_eq
  simp [← h]

/-! ## Arithmetic of words -/

theorem shiftLeft_eq_ofNat (v : Word) (n : Nat) : v <<< n = BitVec.ofNat 16 (v.toNat * 2 ^ n) := by
  simp [BitVec.toNat_eq, Nat.shiftLeft_eq]

theorem ushiftRight_eq_ofNat (v : Word) (n : Nat) : v >>> n = BitVec.ofNat 16 (v.toNat / 2 ^ n) := by
  rw [← Nat.shiftRight_eq_div_pow, ← BitVec.toNat_ushiftRight, BitVec.ofNat_toNat, BitVec.setWidth_eq]

/-- An arithmetic shift rounds down, as `Int.fdiv` does. -/
theorem sshiftRight_eq_ofInt (v : Word) (n : Nat) : v.sshiftRight n = BitVec.ofInt 16 (v.toInt.fdiv (2 ^ n)) := by
  rw [Int.fdiv_eq_ediv_of_nonneg _ (by positivity)]
  exact congrArg (BitVec.ofInt 16) (Int.shiftRight_eq_div_pow _ _)

theorem rotateLeft_zero {w : Nat} (x : BitVec w) : x.rotateLeft 0 = x := by
  simp [BitVec.rotateLeft_def, BitVec.ushiftRight_eq_zero]

theorem rotateRight_zero {w : Nat} (x : BitVec w) : x.rotateRight 0 = x := by
  simp [BitVec.rotateRight_def]

theorem rotateLeft_rotateLeft {w : Nat} (x : BitVec w) (m n : Nat) :
    (x.rotateLeft m).rotateLeft n = x.rotateLeft (m + n) := by
  refine BitVec.eq_of_getMsbD_eq fun i hi => ?_
  have hlt : (n + i) % w < w := Nat.mod_lt _ (by omega)
  simp only [BitVec.getMsbD_rotateLeft, hi, hlt, Nat.add_mod_mod, Nat.add_assoc, decide_true, Bool.true_and]

/-- Bit `i` after a rotation right came from `n` places above it, around the end. -/
theorem getLsbD_rotateRight_eq_mod {w i : Nat} (x : BitVec w) (n : Nat) (hi : i < w) :
    (x.rotateRight n).getLsbD i = x.getLsbD ((n + i) % w) := by
  have hn : n % w < w := Nat.mod_lt _ (by omega)
  rw [BitVec.getLsbD_rotateRight, ← Nat.mod_add_mod]
  generalize n % w = r at hn ⊢
  obtain h | h := Nat.lt_or_ge i (w - r)
  · rw [Nat.mod_eq_of_lt (by omega)]
    simp [h]
  · have hsource : r + i - w = i - (w - r) := by omega
    rw [Nat.mod_eq_sub_mod (by omega), Nat.mod_eq_of_lt (by omega), hsource]
    simp [hi, Nat.not_lt_of_ge h]

theorem rotateRight_rotateRight {w : Nat} (x : BitVec w) (m n : Nat) :
    (x.rotateRight m).rotateRight n = x.rotateRight (m + n) := by
  refine BitVec.eq_of_getLsbD_eq fun i hi => ?_
  have hlt : (n + i) % w < w := Nat.mod_lt _ (by omega)
  simp only [getLsbD_rotateRight_eq_mod, hi, hlt, Nat.add_mod_mod, Nat.add_assoc]

/-! ## Bit instructions (R247 to R249) -/

theorem bitReg_eq (a : Reg) (o : BitOp) (sel : BitSel) (s : State) :
    bitReg a o sel s = .next (result s a (bitResult o (s.regs.get a) (s.bitNumber sel))) :=
  congrArg Host.Outcome.next (s.setReg_setZN a _)

/-- A bit instruction on bit `n`, by its number or by a register whose low four bits are `n`. -/
theorem runs_bit (s : State) (a b : Reg) (o : BitOp) {n : Nat} (hn : n ≤ 15) :
    Runs [op (0xDC + no a), op (64 * o.bits.toNat + n)] s (result s a (bitResult o (s.regs.get a) n)) ∧
    ((s.regs.get b).toNat % 16 = n →
      Runs [op (0xDC + no a), op (64 * o.bits.toNat + 32 + no b)] s (result s a (bitResult o (s.regs.get a) n))) := by
  have hrun : ∀ sel : BitSel, s.bitNumber sel = n →
      Runs [op (0xDC + no a), encodeBitDescr o sel] s (result s a (bitResult o (s.regs.get a) n)) := by
    rintro sel rfl
    refine ⟨_, decode_bit a _, ?_⟩
    rw [exec_decodeBit, bitByDescriptor, bitDescr_encodeBitDescr]
    exact bitReg_eq a o sel s
  have hnat : (BitVec.ofNat 4 n).toNat = n := Nat.mod_eq_of_lt (by omega)
  rw [← encodeBitDescr_imm o (by omega), ← encodeBitDescr_reg]
  refine ⟨hrun _ hnat, fun hb => hrun _ ?_⟩
  rw [State.bitNumber, State.reg, extractLsb'_zero_eq_ofNat _ hb, hnat]

/-- Bit `n` alone is the number `2 ^ n`. -/
theorem one_shiftLeft_eq_ofNat (n : Nat) : 1#16 <<< n = BitVec.ofNat 16 (2 ^ n) :=
  (shiftLeft_eq_ofNat 1#16 n).trans (congrArg _ (Nat.one_mul _))

/-- Settles O47: each of the three combines the register with bit `n` alone. -/
theorem bitInstructionsChangeOneBit : Obligations.BitInstructionsChangeOneBit := by
  intro s a b n hn
  dsimp only
  rw [← one_shiftLeft_eq_ofNat]
  obtain ⟨hset, hsetReg⟩ := runs_bit s a b .bset hn
  obtain ⟨hclr, hclrReg⟩ := runs_bit s a b .bclr hn
  obtain ⟨hchg, hchgReg⟩ := runs_bit s a b .bchg hn
  exact ⟨hset, hclr, hchg, fun hb => ⟨hsetReg hb, hclrReg hb, hchgReg hb⟩⟩

/-! ## Shift counts (R234, R235, R237) -/

/-- A shift by a five-bit count `m`, in its descriptor or in the low bits of a register, is the shift by the signed
number these bits hold. -/
theorem runs_shift {s t : State} {a : Reg} {k : ShiftKind} {m : Nat} (b : Reg) (hm : m < 32)
    (ht : shiftCounted a k (BitVec.ofNat 5 m).toInt s = .next t) :
    Runs [op (0xD8 + no a), op (64 * k.bits.toNat + m)] s t ∧
    ((s.regs.get b).toNat % 32 = m → Runs [op (0xD8 + no a), op (64 * k.bits.toNat + 32 + no b)] s t) := by
  have hrun : ∀ c : ShiftCount, s.shiftCount c = (BitVec.ofNat 5 m).toInt →
      Runs [op (0xD8 + no a), encodeShiftDescr k c] s t := by
    intro c hc
    refine ⟨_, decode_shift a _, ?_⟩
    rw [exec_decodeShift, shiftByDescriptor, shiftDescr_encodeShiftDescr]
    exact (congrArg (shiftCounted a k · s) hc).trans ht
  rw [← encodeShiftDescr_imm k hm, ← encodeShiftDescr_reg]
  refine ⟨hrun _ rfl, fun hb => hrun _ ?_⟩
  rw [State.shiftCount, State.reg, extractLsb'_zero_eq_ofNat _ hb]

theorem toInt_ofNat_leftCount {n : Nat} (hn : n ≤ 15) : (BitVec.ofNat 5 n).toInt = n := by
  interval_cases n <;> rfl

theorem toInt_ofNat_rightCount {n : Nat} (h1 : 1 ≤ n) (hn : n ≤ 16) : (BitVec.ofNat 5 (32 - n)).toInt = -n := by
  interval_cases n <;> rfl

theorem shiftCounted_zero (a : Reg) (k : ShiftKind) (s : State) :
    shiftCounted a k 0 s = .next { s with ps := zn s.ps (s.regs.get a) } := by
  rw [shiftCounted, if_pos rfl, State.setZN, Flags.setZN_eq_zn]
  rfl

/-- Settles O46: a count of 0 in the bytes of each kind. -/
theorem aZeroCountOnlyReports : Obligations.AZeroCountOnlyReports := by
  intro s a b k hk
  have hrun := fun kind => runs_shift b (m := 0) (by decide) (shiftCounted_zero a kind s)
  obtain rfl | rfl | rfl | rfl := hk
  · exact hrun .logical
  · exact hrun .arithmetic
  · exact hrun .rotate
  · exact hrun .rotateCarry

/-! ## What a shift leaves (R236) -/

section

variable {s : State} {k : ShiftKind} (hlink : k = .rotateCarry → s.params.roxLink = .c)
include hlink

/-- A shift by a non-zero count takes in C and leaves the last bit moved out in it, where `ROX_LINK` is C or no rotate
through carry asks for it. -/
theorem shiftCounted_of_ne_zero (a : Reg) {count : Int} (hcount : count ≠ 0) :
    shiftCounted a k count s = .next (shifted s a (shiftBy k count (s.regs.get a) s.ps.c).1
      (shiftBy k count (s.regs.get a) s.ps.c).2) := by
  have hin : s.linkFlag k = s.ps.c := by
    cases k with
    | rotateCarry => rw [State.linkFlag, hlink rfl]
    | _ => rfl
  have hout : ∀ f out, Flags.setShiftedOut f k s.params.roxLink out = { f with c := out } := by
    intro f out
    cases k with
    | rotateCarry => rw [hlink rfl]; rfl
    | _ => rfl
  rw [shiftCounted, if_neg hcount, hin]
  dsimp only
  rw [hout, Flags.setZN_eq_zn]
  rfl

/-- A shift left by 1 to 15 places leaves what its steps give. -/
theorem runs_shiftLeft {a : Reg} {n : Nat} (b : Reg) (h1 : 1 ≤ n) (hn : n ≤ 15) {r : Word} {out : Bool}
    (h : shiftLeft k n (s.regs.get a) s.ps.c = (r, out)) :
    Runs [op (0xD8 + no a), op (64 * k.bits.toNat + n)] s (shifted s a r out) ∧
    ((s.regs.get b).toNat % 32 = n →
      Runs [op (0xD8 + no a), op (64 * k.bits.toNat + 32 + no b)] s (shifted s a r out)) := by
  have hby : shiftBy k n (s.regs.get a) s.ps.c = (r, out) := by
    rw [shiftBy, if_pos (by omega), Int.toNat_natCast, h]
  refine runs_shift b (by omega) ?_
  rw [toInt_ofNat_leftCount hn, shiftCounted_of_ne_zero hlink a (by omega), hby]

/-- A shift right by 1 to 16 places leaves what its steps give. -/
theorem runs_shiftRight {a : Reg} {n : Nat} (b : Reg) (h1 : 1 ≤ n) (hn : n ≤ 16) {r : Word} {out : Bool}
    (h : shiftRight k n (s.regs.get a) s.ps.c = (r, out)) :
    Runs [op (0xD8 + no a), op (64 * k.bits.toNat + (32 - n))] s (shifted s a r out) ∧
    ((s.regs.get b).toNat % 32 = 32 - n →
      Runs [op (0xD8 + no a), op (64 * k.bits.toNat + 32 + no b)] s (shifted s a r out)) := by
  have hby : shiftBy k (-n) (s.regs.get a) s.ps.c = (r, out) := by
    rw [shiftBy, if_neg (by omega), Int.neg_neg, Int.toNat_natCast, h]
  refine runs_shift b (by omega) ?_
  rw [toInt_ofNat_rightCount h1 hn, shiftCounted_of_ne_zero hlink a (by omega), hby]

end

/-! ## One step of a shift (R236) -/

/-- The bits of a word moved up by one place, with `b` below them. -/
theorem getLsbD_stepLeft (v : Word) (b : Bool) (i : Nat) :
    (v.extractLsb' 0 15 ++ BitVec.ofBool b).getLsbD i = if i = 0 then b else decide (i < 16) && v.getLsbD (i - 1) := by
  rw [BitVec.getLsbD_append, BitVec.getLsbD_extractLsb']
  cases i with
  | zero => simp
  | succ i => simp [← Nat.succ_lt_succ_iff (a := i) (b := 15)]

/-- The bits of a word moved down by one place, with `b` above them. -/
theorem getLsbD_stepRight (v : Word) (b : Bool) (i : Nat) :
    (BitVec.ofBool b ++ v.extractLsb' 1 15).getLsbD i = if i = 15 then b else v.getLsbD (i + 1) := by
  rw [BitVec.getLsbD_append, BitVec.getLsbD_extractLsb']
  obtain hi | rfl | hi := Nat.lt_trichotomy i 15
  · simp [hi, hi.ne, Nat.add_comm]
  · simp
  · have htop : i - 15 ≠ 0 := by omega
    simp [hi.ne', Nat.not_lt_of_gt hi, hi.le, htop]

theorem shiftLeftOnce_logical (v : Word) (c : Bool) : shiftLeftOnce .logical v c = (v <<< 1, v.msb) := by
  refine Prod.ext (BitVec.eq_of_getLsbD_eq fun i _ => (getLsbD_stepLeft v _ i).trans ?_) rfl
  rw [BitVec.getLsbD_shiftLeft]
  cases i <;> simp

theorem shiftLeftOnce_rotate (v : Word) (c : Bool) : shiftLeftOnce .rotate v c = (v.rotateLeft 1, v.msb) := by
  refine Prod.ext (BitVec.eq_of_getLsbD_eq fun i _ => (getLsbD_stepLeft v _ i).trans ?_) rfl
  rw [BitVec.getLsbD_rotateLeft]
  cases i with
  | zero => rfl
  | succ i => simp

theorem shiftRightOnce_logical (v : Word) (c : Bool) : shiftRightOnce .logical v c = (v >>> 1, v.getLsbD 0) := by
  refine Prod.ext (BitVec.eq_of_getLsbD_eq fun i _ => (getLsbD_stepRight v _ i).trans ?_) rfl
  rw [BitVec.getLsbD_ushiftRight, Nat.add_comm]
  split
  next h => rw [h, BitVec.getLsbD_of_ge v _ (by decide)]
  next => rfl

theorem shiftRightOnce_arithmetic (v : Word) (c : Bool) :
    shiftRightOnce .arithmetic v c = (v.sshiftRight 1, v.getLsbD 0) := by
  refine Prod.ext (BitVec.eq_of_getLsbD_eq fun i hi => (getLsbD_stepRight v _ i).trans ?_) rfl
  rw [BitVec.getLsbD_sshiftRight, Nat.add_comm]
  split
  next h => rw [h]; rfl
  next => simp [show 1 + i < 16 by omega, hi]

theorem shiftRightOnce_rotate (v : Word) (c : Bool) :
    shiftRightOnce .rotate v c = (v.rotateRight 1, v.getLsbD 0) := by
  refine Prod.ext (BitVec.eq_of_getLsbD_eq fun i hi => (getLsbD_stepRight v _ i).trans ?_) rfl
  rw [BitVec.getLsbD_rotateRight, Nat.add_comm]
  split
  next h => rw [h]; rfl
  next => simp [show i < 15 by omega]

/-- One step left through carry rotates the 17 bits with C on top (R244). -/
theorem cons_shiftLeftOnce_rotateCarry (v : Word) (c : Bool) :
    BitVec.cons (shiftLeftOnce .rotateCarry v c).2 (shiftLeftOnce .rotateCarry v c).1 =
      (BitVec.cons c v).rotateLeft 1 := by
  refine BitVec.eq_of_getLsbD_eq fun i hi => ?_
  simp only [shiftLeftOnce, BitVec.getLsbD_rotateLeft, BitVec.getLsbD_cons, getLsbD_stepLeft]
  obtain rfl | rfl | ⟨h0, h16⟩ : i = 0 ∨ i = 16 ∨ (0 < i ∧ i < 16) := by omega
  · rfl
  · simp [BitVec.msb_eq_getLsbD_last]
  · have hprev : i - 1 ≠ 16 := by omega
    simp [hprev, h16, h0.ne', h16.ne, hi]

/-- One step right through carry rotates the 17 bits with C on top (R245). -/
theorem cons_shiftRightOnce_rotateCarry (v : Word) (c : Bool) :
    BitVec.cons (shiftRightOnce .rotateCarry v c).2 (shiftRightOnce .rotateCarry v c).1 =
      (BitVec.cons c v).rotateRight 1 := by
  refine BitVec.eq_of_getLsbD_eq fun i hi => ?_
  simp only [shiftRightOnce, BitVec.getLsbD_rotateRight, BitVec.getLsbD_cons, getLsbD_stepRight]
  obtain rfl | rfl | h : i = 15 ∨ i = 16 ∨ i < 15 := by omega
  · rfl
  · rfl
  · have h16 : i < 16 := by omega
    have hnext : 1 + i ≠ 16 := by omega
    simp [h.ne, h16, h16.ne, hnext, Nat.add_comm i 1]

/-! ## The steps of a shift together (R236) -/

/-- The last of several steps left. -/
theorem shiftLeft_succ (k : ShiftKind) (n : Nat) (v : Word) (c : Bool) :
    shiftLeft k (n + 1) v c = shiftLeftOnce k (shiftLeft k n v c).1 (shiftLeft k n v c).2 := by
  induction n generalizing v c with
  | zero => rfl
  | succ n ih => exact ih _ _

/-- The last of several steps right. -/
theorem shiftRight_succ (k : ShiftKind) (n : Nat) (v : Word) (c : Bool) :
    shiftRight k (n + 1) v c = shiftRightOnce k (shiftRight k n v c).1 (shiftRight k n v c).2 := by
  induction n generalizing v c with
  | zero => rfl
  | succ n ih => exact ih _ _

section

variable {k : ShiftKind} {shift : Word → Nat → Word} (hzero : ∀ v, shift v 0 = v)
  (hadd : ∀ v n, shift v (n + 1) = shift (shift v n) 1)
include hzero hadd

/-- Where a step left is `shift` by one place, several are `shift` by as many, and the top bit of the last but one
word went out. -/
theorem shiftLeft_succ_of_once (honce : ∀ v c, shiftLeftOnce k v c = (shift v 1, v.msb)) (n : Nat) (v : Word)
    (c : Bool) : shiftLeft k (n + 1) v c = (shift v (n + 1), (shift v n).msb) := by
  induction n with
  | zero => rw [shiftLeft_succ, honce, hzero]; rfl
  | succ n ih => rw [shiftLeft_succ, ih, honce, ← hadd]

/-- The same to the right, where the lowest bit goes out. -/
theorem shiftRight_succ_of_once (honce : ∀ v c, shiftRightOnce k v c = (shift v 1, v.getLsbD 0)) (n : Nat) (v : Word)
    (c : Bool) : shiftRight k (n + 1) v c = (shift v (n + 1), (shift v n).getLsbD 0) := by
  induction n with
  | zero => rw [shiftRight_succ, honce, hzero]; rfl
  | succ n ih => rw [shiftRight_succ, ih, honce, ← hadd]

end

/-! ## LSL, ASL, LSR, ASR (R238 to R241) -/

/-- A step of ASL is one of LSL, so both multiply, and the bit out last stood `n` places from the top. -/
theorem shiftLeft_eq_mul_two_pow {k : ShiftKind} (hk : k = .logical ∨ k = .arithmetic) {n : Nat} (h1 : 1 ≤ n)
    (hn : n ≤ 15) (v : Word) (c : Bool) :
    shiftLeft k n v c = (BitVec.ofNat 16 (v.toNat * 2 ^ n), v.getLsbD (16 - n)) := by
  obtain ⟨n, rfl⟩ := Nat.exists_eq_add_of_le' h1
  have honce : ∀ v c, shiftLeftOnce k v c = (v <<< 1, v.msb) := by
    obtain rfl | rfl := hk
    · exact shiftLeftOnce_logical
    · exact shiftLeftOnce_logical
  have hout : (v <<< n).msb = v.getLsbD (16 - (n + 1)) := by
    rw [BitVec.msb_shiftLeft, BitVec.getMsbD_eq_getLsbD, decide_eq_true (by omega), Bool.true_and, Nat.sub_sub,
      Nat.add_comm 1]
  rw [shiftLeft_succ_of_once BitVec.shiftLeft_zero (fun v n => BitVec.shiftLeft_add v n 1) honce, hout,
    shiftLeft_eq_ofNat]

theorem shiftRight_logical {n : Nat} (h1 : 1 ≤ n) (v : Word) (c : Bool) :
    shiftRight .logical n v c = (BitVec.ofNat 16 (v.toNat / 2 ^ n), v.getLsbD (n - 1)) := by
  obtain ⟨n, rfl⟩ := Nat.exists_eq_add_of_le' h1
  rw [shiftRight_succ_of_once BitVec.ushiftRight_zero (fun v n => BitVec.shiftRight_add v n 1) shiftRightOnce_logical,
    BitVec.getLsbD_ushiftRight, ushiftRight_eq_ofNat]
  rfl

theorem shiftRight_arithmetic {n : Nat} (h1 : 1 ≤ n) (hn : n ≤ 16) (v : Word) (c : Bool) :
    shiftRight .arithmetic n v c = (BitVec.ofInt 16 (v.toInt.fdiv (2 ^ n)), v.getLsbD (n - 1)) := by
  obtain ⟨n, rfl⟩ := Nat.exists_eq_add_of_le' h1
  have hout : (v.sshiftRight n).getLsbD 0 = v.getLsbD n := by
    rw [BitVec.getLsbD_sshiftRight, if_pos (by omega)]
    rfl
  rw [shiftRight_succ_of_once (fun v => BitVec.sshiftRight_zero) (fun v n => BitVec.sshiftRight_add)
    shiftRightOnce_arithmetic, hout, sshiftRight_eq_ofInt]
  rfl

/-- Settles O42: both shifts left are the same. -/
theorem leftShiftsMultiply : Obligations.LeftShiftsMultiply := by
  intro s a b n h1 hn
  obtain ⟨hlsl, hls⟩ := runs_shiftLeft (s := s) (k := .logical) nofun b h1 hn
    (shiftLeft_eq_mul_two_pow (.inl rfl) h1 hn (s.regs.get a) s.ps.c)
  obtain ⟨hasl, has⟩ := runs_shiftLeft (s := s) (k := .arithmetic) nofun b h1 hn
    (shiftLeft_eq_mul_two_pow (.inr rfl) h1 hn (s.regs.get a) s.ps.c)
  exact ⟨hlsl, hasl, fun hb => ⟨hls hb, has hb⟩⟩

/-- Settles O43: the unsigned quotient and the signed one, rounded down. -/
theorem rightShiftsDivide : Obligations.RightShiftsDivide := by
  intro s a b n h1 hn
  obtain ⟨hlsr, hls⟩ := runs_shiftRight (s := s) (k := .logical) nofun b h1 hn
    (shiftRight_logical h1 (s.regs.get a) s.ps.c)
  obtain ⟨hasr, has⟩ := runs_shiftRight (s := s) (k := .arithmetic) nofun b h1 hn
    (shiftRight_arithmetic h1 hn (s.regs.get a) s.ps.c)
  exact ⟨hlsr, hasr, fun hb => ⟨hls hb, has hb⟩⟩

/-! ## ROL, ROR (R242, R243) -/

/-- The top bit that went out last is the lowest of the result. -/
theorem shiftLeft_rotate {n : Nat} (h1 : 1 ≤ n) (v : Word) (c : Bool) :
    shiftLeft .rotate n v c = (v.rotateLeft n, (v.rotateLeft n).getLsbD 0) := by
  obtain ⟨n, rfl⟩ := Nat.exists_eq_add_of_le' h1
  have hadd : ∀ (v : Word) n, v.rotateLeft (n + 1) = (v.rotateLeft n).rotateLeft 1 :=
    fun v n => (rotateLeft_rotateLeft v n 1).symm
  have hout : ∀ v : Word, v.msb = (v.rotateLeft 1).getLsbD 0 := fun v => by
    rw [BitVec.msb_eq_getLsbD_last, BitVec.getLsbD_rotateLeft]
    rfl
  rw [shiftLeft_succ_of_once rotateLeft_zero hadd shiftLeftOnce_rotate, hout, ← hadd]

/-- The lowest bit that went out last is the top one of the result. -/
theorem shiftRight_rotate {n : Nat} (h1 : 1 ≤ n) (v : Word) (c : Bool) :
    shiftRight .rotate n v c = (v.rotateRight n, (v.rotateRight n).getLsbD 15) := by
  obtain ⟨n, rfl⟩ := Nat.exists_eq_add_of_le' h1
  have hadd : ∀ (v : Word) n, v.rotateRight (n + 1) = (v.rotateRight n).rotateRight 1 :=
    fun v n => (rotateRight_rotateRight v n 1).symm
  have hout : ∀ v : Word, v.getLsbD 0 = (v.rotateRight 1).getLsbD 15 := fun v =>
    (getLsbD_rotateRight_eq_mod (i := 15) v 1 (by decide)).symm
  rw [shiftRight_succ_of_once rotateRight_zero hadd shiftRightOnce_rotate, hout, ← hadd]

/-- Settles O44: C is the bit that a rotate carries around last. -/
theorem rotatesRotateSixteenBits : Obligations.RotatesRotateSixteenBits := by
  intro s a b n h1 hn
  have hleft := fun hn15 => runs_shiftLeft (s := s) (k := .rotate) nofun b h1 hn15
    (shiftLeft_rotate h1 (s.regs.get a) s.ps.c)
  obtain ⟨hror, hrorReg⟩ := runs_shiftRight (s := s) (k := .rotate) nofun b h1 hn
    (shiftRight_rotate h1 (s.regs.get a) s.ps.c)
  exact ⟨fun hn15 => (hleft hn15).1, hror, fun hn15 => (hleft hn15).2, hrorReg⟩

/-! ## ROXL, ROXR (R244, R245) -/

/-- A word and a flag, read off the 17 bits with the flag on top. -/
theorem eq_of_cons_eq {q : Word × Bool} {x : BitVec 17} (h : BitVec.cons q.2 q.1 = x) :
    q = (x.setWidth 16, x.getLsbD 16) := by
  subst h
  rw [BitVec.setWidth_cons, BitVec.getLsbD_cons, if_pos rfl]

theorem cons_shiftLeft_rotateCarry (n : Nat) (v : Word) (c : Bool) :
    BitVec.cons (shiftLeft .rotateCarry n v c).2 (shiftLeft .rotateCarry n v c).1 =
      (BitVec.cons c v).rotateLeft n := by
  induction n with
  | zero => exact (rotateLeft_zero _).symm
  | succ n ih => rw [shiftLeft_succ, cons_shiftLeftOnce_rotateCarry, ih, rotateLeft_rotateLeft]

theorem cons_shiftRight_rotateCarry (n : Nat) (v : Word) (c : Bool) :
    BitVec.cons (shiftRight .rotateCarry n v c).2 (shiftRight .rotateCarry n v c).1 =
      (BitVec.cons c v).rotateRight n := by
  induction n with
  | zero => exact (rotateRight_zero _).symm
  | succ n ih => rw [shiftRight_succ, cons_shiftRightOnce_rotateCarry, ih, rotateRight_rotateRight]

/-- Settles O45: the 17 bits turn as one. -/
theorem rotatesThroughCarryRotateSeventeenBits : Obligations.RotatesThroughCarryRotateSeventeenBits := by
  intro s a b n hlink h1 hn
  have hleft := fun hn15 => runs_shiftLeft (k := .rotateCarry) (fun _ => hlink) b h1 hn15
    (eq_of_cons_eq (cons_shiftLeft_rotateCarry n (s.regs.get a) s.ps.c))
  obtain ⟨hroxr, hroxrReg⟩ := runs_shiftRight (k := .rotateCarry) (fun _ => hlink) b h1 hn
    (eq_of_cons_eq (cons_shiftRight_rotateCarry n (s.regs.get a) s.ps.c))
  exact ⟨fun hn15 => (hleft hn15).1, hroxr, fun hn15 => (hleft hn15).2, hroxrReg⟩

end Sys2Proof.Machine

/-! SUPPORT. The conditional branches (44_branches.md): the sixteen conditions by their numbers and in pairs of
opposites, the opcodes 0xE0 to 0xEF, and what the flags of CMP say about the order of its operands. -/

namespace Sys2Proof

open Sys2Proof.Spec

/-! ## The sixteen conditions (R271 to R286) -/

/-- The number of a condition is its place in the list. -/
theorem Cond.conditions_getElem?_bits (f : Machine.Flags) (c : Cond) :
    (conditions f)[c.bits.toNat]? = some (c.holds f) := by
  cases c with
  | cc | cs | ne | eq | vc | vs | pl | mi | uc | us => rfl
  | ge | lt | gt | le | hi | ls => simp [conditions, Cond.bits, Cond.holds, bne, beq_eq_decide]

/-- Every four-bit number is the number of a condition (R102). -/
theorem Cond.exists_bits_toNat {n : Nat} (hn : n < 16) : ∃ c : Cond, c.bits.toNat = n := by
  have hlist : ∀ n < 16, n ∈ List.map (fun c => c.bits.toNat)
      [Cond.cc, .cs, .ne, .eq, .vc, .vs, .pl, .mi, .ge, .lt, .gt, .le, .uc, .us, .hi, .ls] := by decide
  obtain ⟨c, -, hc⟩ := List.mem_map.mp (hlist n hn)
  exact ⟨c, hc⟩

/-- The condition that asks the opposite: its number differs in the lowest bit. -/
def Cond.opposite : Cond → Cond
  | .cc => .cs
  | .cs => .cc
  | .ne => .eq
  | .eq => .ne
  | .vc => .vs
  | .vs => .vc
  | .pl => .mi
  | .mi => .pl
  | .ge => .lt
  | .lt => .ge
  | .gt => .le
  | .le => .gt
  | .uc => .us
  | .us => .uc
  | .hi => .ls
  | .ls => .hi

theorem Cond.holds_opposite (f : Machine.Flags) (c : Cond) :
    c.opposite.holds f = true ↔ ¬ c.holds f = true := by
  cases c <;> simp [Cond.opposite, Cond.holds, or_iff_not_imp_left]

/-- LS asks for what CS asks or what EQ asks (R286). -/
theorem Cond.holds_ls_iff (f : Machine.Flags) :
    Cond.holds f .ls = true ↔ Cond.holds f .cs = true ∨ Cond.holds f .eq = true :=
  Bool.or_eq_true_iff

/-- LE asks for what LT asks or what EQ asks (R282). -/
theorem Cond.holds_le_iff (f : Machine.Flags) :
    Cond.holds f .le = true ↔ Cond.holds f .lt = true ∨ Cond.holds f .eq = true :=
  Bool.or_eq_true_iff.trans or_comm

end Sys2Proof

namespace Sys2Proof.Machine

open Sys2Proof.Spec

/-! ## Branches (R270) -/

/-- Opcode 0xE and the number of the condition, then the displacement (R102). -/
theorem decodesTo_branch (c : Cond) (dd : Byte) : DecodesTo [op (0xE0 + c.bits.toNat), dd] (.branch c dd) := by
  cases c <;> exact ⟨_, rfl, rfl⟩

/-- A branch writes `pc` alone, with its target or with what it was. -/
theorem branchIf_eq (c : Cond) (dd : Byte) (s : State) :
    branchIf c dd s = .next { s with pc := if c.holds s.ps then s.branchTarget dd else s.pc } := by
  unfold branchIf
  split <;> rfl

/-- Settles O50: the place of a condition in `conditions` is its number. -/
theorem branchesGoWhereTheirConditionSays : Obligations.BranchesGoWhereTheirConditionSays := by
  intro s dd cc taken htaken
  have hcc : cc < 16 := (List.getElem?_eq_some_iff.mp htaken).1
  obtain ⟨c, rfl⟩ := Cond.exists_bits_toNat hcc
  obtain rfl : c.holds s.ps = taken := Option.some.inj ((c.conditions_getElem?_bits s.ps).symm.trans htaken)
  exact (decodesTo_branch c dd).runs (branchIf_eq c dd s)

/-! ## The conditions after CMP (R145, R287) -/

/-- CMP leaves the flags of the difference and nothing else. -/
theorem compareReg_eq (a b : Reg) (s : State) :
    compareReg a b s = .next { s with ps := differenceFlags s.ps (s.regs.get a) (s.regs.get b) 0 } := by
  rw [compareReg, Flags.setCompare_sub16]
  rfl

section

variable (f : Flags) (a b : Word)

theorem holds_eq_differenceFlags : Cond.holds (differenceFlags f a b 0) .eq = true ↔ a = b := by
  simp [Cond.holds, differenceFlags, zn, BitVec.sub_eq_iff_eq_add]

theorem holds_cs_differenceFlags : Cond.holds (differenceFlags f a b 0) .cs = true ↔ a.toNat < b.toNat :=
  decide_eq_true_iff

/-- Bit 15 of a word is the sign of its number. -/
theorem getLsbD_15_eq_decide_toInt_neg (v : Word) : v.getLsbD 15 = decide (v.toInt < 0) :=
  (BitVec.msb_eq_getLsbD_last v).symm.trans BitVec.msb_eq_toInt

/-- The sign of the difference of two words is that of the difference of their numbers, unless it overflows, and then it
is the opposite. -/
theorem holds_lt_differenceFlags : Cond.holds (differenceFlags f a b 0) .lt = true ↔ a.toInt < b.toInt := by
  have hsub : (a - b).toInt = (a.toInt - b.toInt).bmod (2 ^ 16) := BitVec.toInt_sub
  have ha := And.intro (BitVec.le_toInt a) (BitVec.toInt_lt (x := a))
  have hb := And.intro (BitVec.le_toInt b) (BitVec.toInt_lt (x := b))
  simp only [Cond.holds, differenceFlags, zn, subOverflow, getLsbD_15_eq_decide_toInt_neg, BitVec.sub_zero,
    bne_iff_ne, ne_eq, decide_eq_decide, hsub, Int.bmod_def]
  omega

theorem holds_ls_differenceFlags : Cond.holds (differenceFlags f a b 0) .ls = true ↔ a.toNat ≤ b.toNat := by
  rw [Cond.holds_ls_iff, holds_cs_differenceFlags, holds_eq_differenceFlags, Nat.le_iff_lt_or_eq, BitVec.toNat_inj]

theorem holds_le_differenceFlags : Cond.holds (differenceFlags f a b 0) .le = true ↔ a.toInt ≤ b.toInt := by
  rw [Cond.holds_le_iff, holds_lt_differenceFlags, holds_eq_differenceFlags, Int.le_iff_lt_or_eq, BitVec.toInt_inj]

end

/-- Settles O23: EQ, CS and LT are read off the flags, LS and LE add equality, and the other five are the opposites. -/
theorem conditionsAfterCmpSayWhatTheirNamesSay : Obligations.ConditionsAfterCmpSayWhatTheirNamesSay := by
  intro i a b s t hform ht
  rw [exec_eq_formMeaning, hform, formMeaning, compareReg_eq] at ht
  obtain rfl := Host.Outcome.next.inj ht
  have heq := holds_eq_differenceFlags s.ps (s.regs.get a) (s.regs.get b)
  have hcs := holds_cs_differenceFlags s.ps (s.regs.get a) (s.regs.get b)
  have hls := holds_ls_differenceFlags s.ps (s.regs.get a) (s.regs.get b)
  have hlt := holds_lt_differenceFlags s.ps (s.regs.get a) (s.regs.get b)
  have hle := holds_le_differenceFlags s.ps (s.regs.get a) (s.regs.get b)
  have hopp := Cond.holds_opposite (differenceFlags s.ps (s.regs.get a) (s.regs.get b) 0)
  exact ⟨heq, (hopp .eq).trans heq.not,
    (hopp .cs).trans (hcs.not.trans Nat.not_lt), hcs, (hopp .ls).trans (hls.not.trans Nat.not_le), hls,
    (hopp .lt).trans (hlt.not.trans Int.not_lt), hlt, (hopp .le).trans (hle.not.trans Int.not_le), hle⟩

end Sys2Proof.Machine

/-! SUPPORT. The miscellaneous instructions (45_misc.md): opcodes 0xF0 to 0xFE, the flags under a mask, and the model's
root, products and quotients against their arithmetic meaning. -/

namespace Sys2Proof.Machine

open Sys2Proof.Spec

/-! ## The stack pointer (R300, R301, R306) -/

/-- Settles O51: each is its arm of `exec`, and `signExtend` is `ofInt` of the signed number. -/
theorem stackPointerMovesWriteNoFlag : Obligations.StackPointerMovesWriteNoFlag := by
  intro s d
  have hmoveR0Sp : DecodesTo [0xF0] .moveR0Sp := ⟨_, rfl, rfl⟩
  have hmoveSpR0 : DecodesTo [0xF1] .moveSpR0 := ⟨_, rfl, rfl⟩
  have haddiSp : DecodesTo [0xF6, d] (.addiSp d) := ⟨_, rfl, rfl⟩
  exact ⟨hmoveR0Sp.runs rfl, hmoveSpR0.runs rfl, haddiSp.runs rfl⟩

/-! ## JMP (R302, R303) -/

/-- An opcode whose form takes its two operand bytes as a word, low byte first (R94), takes that word. -/
theorem DecodesTo.of_bytes {b0 : Byte} {f : Word → Form} (h : ∀ b1 b2, DecodesTo [b0, b1, b2] (f (b2 ++ b1)))
    (v : Word) : DecodesTo [b0, lo v, hi v] (f v) := by
  have hv := h (lo v) (hi v)
  rwa [hi_append_lo] at hv

/-- Settles O52: both jump, one of them to the address in R0. -/
theorem jumpsGoToTheirTarget : Obligations.JumpsGoToTheirTarget := by
  intro s addr
  have hjmpR0 : DecodesTo [0xF2] .jmpR0 := ⟨_, rfl, rfl⟩
  have hjmpAddr : DecodesTo [0xF3, lo addr, hi addr] (.jmpAddr addr) := .of_bytes (fun _ _ => ⟨_, rfl, rfl⟩) addr
  exact ⟨hjmpR0.runs rfl, hjmpAddr.runs rfl⟩

/-! ## ANDI PS, ORI PS (R304, R305) -/

/-- The flags, each changed by `g` at its position of the PS word. -/
def Flags.mapAt (l : Config.PsLayout) (g : Bool → Fin 16 → Bool) (f : Flags) : Flags where
  z := g f.z l.z
  n := g f.n l.n
  c := g f.c l.c
  v := g f.v l.v
  u := g f.u l.u
  x := g f.x l.x
  d := g f.d l.d

/-- Where `mask` acts on each bit of a word as `g` does, loading the masked PS word changes each flag by `g`. -/
theorem Flags.ofImage_mask_image (f : Flags) {l : Config.PsLayout} (hl : l.distinct = true) {mask : Word → Word}
    {g : Bool → Fin 16 → Bool} (hmask : ∀ (w : Word) (p : Fin 16), (mask w).getLsbD p.val = g (w.getLsbD p.val) p)
    (base : Word) : Flags.ofImage l (mask (f.image l base)) = f.mapAt l g := by
  have hmap : ∀ w, Flags.ofImage l (mask w) = (Flags.ofImage l w).mapAt l g := fun w => by
    simp only [Flags.ofImage, Flags.mapAt, hmask]
  rw [hmap, Flags.ofImage_image f base hl]

/-- A flag at position `p` in the low byte meets the bit of the data there by `meet`; above the low byte it stays. -/
def onLowByte (meet : Bool → Bool → Bool) (d : Byte) (f : Bool) (p : Fin 16) : Bool :=
  if p.val < 8 then meet f (d.getLsbD p.val) else f

/-- The data of ANDI PS has ones above it (R304), so that a bit above 7 stays. -/
theorem getLsbD_and_data (d : Byte) (w : Word) (p : Fin 16) :
    (w &&& (0xFF#8 ++ d)).getLsbD p.val = onLowByte and d (w.getLsbD p.val) p := by
  rw [onLowByte, BitVec.getLsbD_and, BitVec.getLsbD_append]
  split
  · rfl
  · have hones : (0xFF#8).getLsbD (p.val - 8) = true := by
      rw [show 0xFF#8 = BitVec.allOnes 8 from rfl, BitVec.getLsbD_allOnes, decide_eq_true (by omega)]
    rw [hones, Bool.and_true]

/-- The data of ORI PS has zeros above it (R305). -/
theorem getLsbD_or_data (d : Byte) (w : Word) (p : Fin 16) :
    (w ||| (0x00#8 ++ d)).getLsbD p.val = onLowByte or d (w.getLsbD p.val) p := by
  rw [onLowByte, BitVec.getLsbD_or, BitVec.getLsbD_append]
  split
  · rfl
  · rw [BitVec.getLsbD_zero, Bool.or_false]

theorem execAndiPs_eq {s : State} (hl : s.params.psLayout.distinct = true) (d : Byte) :
    execAndiPs d s = .next { s with ps := s.ps.mapAt s.params.psLayout (onLowByte and d) } := by
  rw [execAndiPs, State.setPs, Flags.ofImage_mask_image s.ps hl (getLsbD_and_data d)]

theorem execOriPs_eq {s : State} (hl : s.params.psLayout.distinct = true) (d : Byte) :
    execOriPs d s = .next { s with ps := s.ps.mapAt s.params.psLayout (onLowByte or d) } := by
  rw [execOriPs, State.setPs, Flags.ofImage_mask_image s.ps hl (getLsbD_or_data d)]

/-- Settles O53: both load the PS word back with the data on its low byte. -/
theorem andiAndOriActOnTheLowByteOfPs : Obligations.AndiAndOriActOnTheLowByteOfPs := by
  intro s d hl
  have handi : DecodesTo [0xF4, d] (.andiPs d) := ⟨_, rfl, rfl⟩
  have hori : DecodesTo [0xF5, d] (.oriPs d) := ⟨_, rfl, rfl⟩
  exact ⟨handi.runs (execAndiPs_eq hl d), hori.runs (execOriPs_eq hl d)⟩

/-! ## SQRT (R307) -/

/-- The search from a bound downwards finds the root, if the bound is not below it. -/
theorem rootUpTo_eq_min (n bound : Nat) : rootUpTo n bound = min bound n.sqrt := by
  induction bound with
  | zero => exact (Nat.zero_min _).symm
  | succ r ih =>
    have hstep : (r + 1) * (r + 1) ≤ n ↔ r + 1 ≤ n.sqrt := Nat.le_sqrt.symm
    simp only [rootUpTo, hstep, ih]
    split <;> omega

/-- A word is below 256 squared, so 255 bounds its root. -/
theorem squareRoot_eq (v : Word) : squareRoot v = BitVec.ofNat 16 v.toNat.sqrt := by
  have hroot : v.toNat.sqrt < 256 := Nat.sqrt_lt.mpr v.isLt
  rw [squareRoot, rootUpTo_eq_min, Nat.min_eq_right (by omega)]

/-- Settles O54: the root rounded down. -/
theorem sqrtIsTheFloorOfTheRoot : Obligations.SqrtIsTheFloorOfTheRoot := by
  intro s
  have hsqrt : DecodesTo [0xF7] .sqrt := ⟨_, rfl, rfl⟩
  refine ⟨s.regs.r1.toNat.sqrt, Nat.sqrt_le _, Nat.lt_succ_sqrt _, hsqrt.runs ?_⟩
  rw [formMeaning, execSqrt, squareRoot_eq, State.result_eq]
  rfl

/-! ## MULU, MULS (R308, R309) -/

/-- 32 bits hold the product of two unsigned words. -/
theorem toNat_productUnsigned (a b : Word) : (productUnsigned a b).toNat = a.toNat * b.toNat :=
  (BitVec.toNat_ofNat _ 32).trans (Nat.mod_eq_of_lt BitVec.toNat_mul_toNat_lt)

/-- 32 bits hold the product of two signed words, that of -32768 with itself included. -/
theorem toInt_productSigned (a b : Word) : (productSigned a b).toInt = a.toInt * b.toInt := by
  have hmin : -2 ^ 30 ≤ a.toInt * b.toInt := BitVec.le_toInt_mul_toInt
  have hmax : a.toInt * b.toInt ≤ 2 ^ 30 := BitVec.toInt_mul_toInt_le
  exact BitVec.toInt_ofInt_eq_self (by decide) (by omega) (by omega)

/-- A product goes to the registers of `MULDIV_DEST`, the high word last, with Z and N of its 32 bits. -/
theorem multiplyResult_eq (p : BitVec 32) (s : State) :
    multiplyResult p s = .next { s with
      regs := (s.regs.set s.params.mulDivDest.prodLow (p.extractLsb' 0 16)).set s.params.mulDivDest.prodHigh
        (p.extractLsb' 16 16)
      ps := { s.ps with z := decide (p = 0#32), n := p.getLsbD 31 } } := by
  rw [multiplyResult, Flags.setProduct, BitVec.msb_eq_getLsbD_last]
  rfl

/-- Settles O55: both products are exact in 32 bits and are written alike. -/
theorem multiplicationsGiveThe32BitProduct : Obligations.MultiplicationsGiveThe32BitProduct := by
  intro s
  have hmulu : DecodesTo [0xF8] .mulu := ⟨_, rfl, rfl⟩
  have hmuls : DecodesTo [0xF9] .muls := ⟨_, rfl, rfl⟩
  exact ⟨toNat_productUnsigned _ _, toInt_productSigned _ _, hmulu.runs (multiplyResult_eq _ s),
    hmuls.runs (multiplyResult_eq _ s)⟩

/-! ## DIVU, DIVS (R310, R311) -/

theorem divideUnsigned_eq (a b : Word) :
    divideUnsigned a b = (BitVec.ofNat 16 (a.toNat / b.toNat), BitVec.ofNat 16 (a.toNat % b.toNat)) := by
  rw [divideUnsigned, Nat.mul_comm, ← Nat.mod_eq_sub]

/-- Quotient and remainder go to the registers of `MULDIV_DEST`, the remainder last, with Z and N of the quotient. -/
theorem State.divideResult_eq (s : State) (q r : Word) :
    s.divideResult q r = { s with
      regs := (s.regs.set s.params.mulDivDest.quotient q).set s.params.mulDivDest.remainder r
      ps := zn s.ps q } :=
  congrArg (fun f => { s.divideResult q r with ps := f }) (Flags.setZN_eq_zn s.ps q)

theorem execDivu_eq {s : State} (hr1 : s.reg .r1 ≠ 0#16) :
    execDivu s = .next (s.divideResult (BitVec.ofNat 16 ((s.reg .r0).toNat / (s.reg .r1).toNat))
      (BitVec.ofNat 16 ((s.reg .r0).toNat % (s.reg .r1).toNat))) := by
  rw [execDivu, if_neg hr1, divideUnsigned_eq]

/-- Settles O56: the quotient rounded down and the remainder it leaves. -/
theorem divuDivides : Obligations.DivuDivides := by
  intro s hr1
  have hdivu : DecodesTo [0xFA] .divu := ⟨_, rfl, rfl⟩
  have hpos : 0 < s.regs.r1.toNat := Nat.pos_of_ne_zero fun h => hr1 (BitVec.eq_of_toNat_eq h)
  have hquotient : s.regs.r0.toNat / s.regs.r1.toNat < 65536 := (Nat.div_le_self _ _).trans_lt s.regs.r0.isLt
  refine ⟨_, _, (Nat.div_add_mod' _ _).symm, Nat.mod_lt _ hpos, hquotient, hdivu.runs ?_⟩
  rw [formMeaning, execDivu_eq hr1, State.divideResult_eq]
  rfl

/-- Rounding toward zero is `Int.tdiv`. -/
theorem divideSigned_true (a b : Int) : divideSigned true a b = (a.tdiv b, a.tmod b) := by
  rw [Int.tmod_def, Int.mul_comm b]
  rfl

/-- A remainder that is never negative is that of Euclidean division. -/
theorem divideSigned_false (a : Int) {b : Int} (hb : b ≠ 0) : divideSigned false a b = (a / b, a % b) := by
  have hr : a % (b.natAbs : Int) = a % b := by rw [Int.natCast_natAbs, Int.emod_abs]
  have hq : (a - a % b).tdiv b = a / b := by rw [← Int.mul_ediv_self, Int.mul_tdiv_cancel_left _ hb]
  simp only [divideSigned, Bool.false_eq_true, if_false, hr, hq]

/-- Whichever way it rounds, the signed division is exact, with a remainder below the divisor. -/
theorem divideSigned_exact (truncate : Bool) (a : Int) {b : Int} (hb : b ≠ 0) :
    a = (divideSigned truncate a b).1 * b + (divideSigned truncate a b).2 ∧
      (divideSigned truncate a b).2.natAbs < b.natAbs := by
  cases truncate with
  | true =>
    rw [divideSigned_true]
    refine ⟨(Int.tdiv_mul_add_tmod a b).symm, ?_⟩
    rw [Int.natAbs_tmod]
    exact Nat.mod_lt _ (Int.natAbs_pos.mpr hb)
  | false =>
    rw [divideSigned_false a hb]
    have hnonneg := Int.emod_nonneg a hb
    have hlt := Int.emod_lt_abs a hb
    refine ⟨(Int.ediv_mul_add_emod a b).symm, ?_⟩
    rw [← Int.natAbs_abs b]
    exact Int.natAbs_lt_natAbs_of_nonneg_of_lt hnonneg hlt

/-- Rounded toward zero, the remainder is zero or has the sign of the dividend. -/
theorem divideSigned_true_remainder (a b : Int) :
    (divideSigned true a b).2 = 0 ∨ (0 < (divideSigned true a b).2 ∧ 0 < a) ∨
      ((divideSigned true a b).2 < 0 ∧ a < 0) := by
  have hsign := Int.sign_tmod a b
  rw [divideSigned_true]
  split at hsign
  · exact .inl (Int.sign_eq_zero_iff_zero.mp hsign)
  · obtain ha | ha | ha := Int.lt_trichotomy a 0
    · exact .inr (.inr ⟨Int.sign_eq_neg_one_iff_neg.mp (hsign.trans (Int.sign_eq_neg_one_of_neg ha)), ha⟩)
    · exact .inl (by rw [ha, Int.zero_tmod])
    · exact .inr (.inl ⟨Int.sign_eq_one_iff_pos.mp (hsign.trans (Int.sign_eq_one_of_pos ha)), ha⟩)

theorem divideSigned_false_remainder_nonneg (a : Int) {b : Int} (hb : b ≠ 0) : 0 ≤ (divideSigned false a b).2 := by
  rw [divideSigned_false a hb]
  exact Int.emod_nonneg a hb

/-- DIVS writes as DIVU does, and V where 16 bits do not hold the quotient. -/
theorem execDivs_eq {s : State} (hr1 : s.reg .r1 ≠ 0#16) {q r : Int}
    (hqr : divideSigned (s.ps.d == s.params.divD) (s.reg .r0).toInt (s.reg .r1).toInt = (q, r)) :
    execDivs s = .next { s.divideResult (BitVec.ofInt 16 q) (BitVec.ofInt 16 r) with
      ps := { zn s.ps (BitVec.ofInt 16 q) with v := decide (q = 32768) } } := by
  simp only [execDivs, if_neg hr1, hqr, State.divideResult_eq]

/-- Settles O57: D selects the rounding, and both roundings are exact. -/
theorem divsDividesBothWays : Obligations.DivsDividesBothWays := by
  intro s hr1
  have hdivs : DecodesTo [0xFB] .divs := ⟨_, rfl, rfl⟩
  have hb : s.regs.r1.toInt ≠ 0 := fun h => hr1 (BitVec.eq_of_toInt_eq h)
  obtain ⟨hexact, hlt⟩ := divideSigned_exact (s.ps.d == s.params.divD) s.regs.r0.toInt hb
  refine ⟨_, _, hexact, hlt, fun hd => ?_, fun hd => ?_, hdivs.runs (execDivs_eq hr1 rfl)⟩
  · rw [beq_iff_eq.mpr hd]
    exact divideSigned_true_remainder _ _
  · rw [beq_false_of_ne hd]
    exact divideSigned_false_remainder_nonneg _ hb

/-! ## ADDX, SUBX, NEGX (R312 to R314) -/

/-- Settles O59: X is the third operand of the sum and of both differences. -/
theorem extendedArithmeticTakesXIn : Obligations.ExtendedArithmeticTakesXIn := by
  intro s
  have haddx : DecodesTo [0xFC] .addx := ⟨_, rfl, rfl⟩
  have hsubx : DecodesTo [0xFD] .subx := ⟨_, rfl, rfl⟩
  have hnegx : DecodesTo [0xFE] .negx := ⟨_, rfl, rfl⟩
  exact ⟨haddx.runs (s.sumResult_add16 .r0 _ _ s.ps.x), hsubx.runs (s.sumResult_sub16 .r0 _ _ s.ps.x),
    hnegx.runs (s.sumResult_sub16 .r0 0#16 _ s.ps.x)⟩

end Sys2Proof.Machine

/-! SUPPORT. The exceptions (60_exceptions.md): what the entry stores and what it leaves, whichever exception it is, and
that RETI undoes the entry. -/

namespace Sys2Proof.Machine

open Sys2Proof.Spec

/-! ## The addresses of the frame (R66) -/

theorem sub_two_sub_two (a : Word) : a - 2#16 - 2#16 = a - 4#16 := by bv_omega

theorem sub_four_add_two (a : Word) : a - 4#16 + 2#16 = a - 2#16 := by bv_omega

theorem sub_four_add_one (a : Word) : a - 4#16 + 1#16 = a - 3#16 := by bv_omega

theorem sub_two_add_one (a : Word) : a - 2#16 + 1#16 = a - 1#16 := by bv_omega

/-! ## The entry (R344) -/

/-- The frame can be written where both of its words can (R71). -/
theorem State.writable_four (s : State) (a : Word) :
    s.writable a 4 = (s.writable a 2 && s.writable (a + 2#16) 2) := by
  have hnext : a + 1#16 + 1#16 = a + 2#16 := BitVec.add_assoc _ _ _
  simp only [State.writable, hnext, Bool.and_true, Bool.and_assoc]

/-- The bytes of `s` after an exception was taken: the PS word at `sp - 4`, PC at `sp - 2`. -/
def State.byteAfterTrap (s : State) (x : Word) : Byte :=
  if x = s.sp - 4#16 then lo s.psWord
  else if x = s.sp - 3#16 then hi s.psWord
  else if x = s.sp - 2#16 then lo s.pc
  else if x = s.sp - 1#16 then hi s.pc
  else s.byte x

/-- The machine between the two pushes of the entry. -/
def State.pcPushed (s : State) : State := State.putWord { s with sp := s.sp - 2#16 } (s.sp - 2#16) s.pc

theorem State.pcPushed_byte {s : State} (hs : Memory.wf s.mem = true) (x : Word) :
    s.pcPushed.byte x = wordAt s (s.sp - 2#16) s.pc x :=
  State.putWord_byte (s := { s with sp := s.sp - 2#16 }) hs _ x s.pc

/-- The second push stores the PS word over what the first one left. -/
theorem State.trapped_byte_eq_wordAt {s : State} (hs : Memory.wf s.mem = true) (e : Exception) (x : Word) :
    (s.trapped e).byte x = wordAt s.pcPushed (s.sp - 2#16 - 2#16) s.psWord x :=
  State.putWord_byte (s := s.pcPushed.drawn) (State.putWord_wf _ _ _ hs) _ x s.psWord

theorem State.trapped_byte {s : State} (hs : Memory.wf s.mem = true) (e : Exception) (x : Word) :
    (s.trapped e).byte x = s.byteAfterTrap x := by
  rw [State.trapped_byte_eq_wordAt hs, wordAt, State.pcPushed_byte hs, wordAt, sub_two_sub_two, sub_four_add_one,
    sub_two_add_one, State.byteAfterTrap]

/-- Besides memory, the entry changes the stack pointer, the count of PS words drawn and `pc`. -/
theorem State.trapped_eq_with_mem (s : State) (e : Exception) :
    s.trapped e = { s with
      sp := s.sp - 4#16
      psDraws := s.psDraws + 1
      pc := s.params.vectorBase.slot e.number
      mem := (s.trapped e).mem } := by
  rw [← sub_two_sub_two]
  rfl

/-- Bytes whose form takes an exception store its frame, and go to its vector. -/
theorem DecodesTo.runsStoring_takeException {bytes : List Byte} {f : Form} {s : State} {e : Exception}
    (h : DecodesTo bytes f) (hs : s.wf = true) (hwrite : s.writable (s.sp - 4#16) 4 = true)
    (hf : formMeaning f s = s.takeException e) :
    RunsStoring bytes s
      { s with sp := s.sp - 4#16, psDraws := s.psDraws + 1, pc := s.params.vectorBase.slot e.number }
      s.byteAfterTrap := by
  obtain ⟨i, hi, rfl⟩ := h
  obtain ⟨hps, hpc⟩ := Bool.and_eq_true_iff.mp ((s.writable_four _).symm.trans hwrite)
  have htrap : exec i s = .next (s.trapped e) :=
    ((exec_eq_formMeaning i s).trans hf).trans
      (State.takeException_eq e (sub_four_add_two s.sp ▸ hpc) ((sub_two_sub_two s.sp).symm ▸ hps))
  exact ⟨i, _, hi, htrap, s.trapped_eq_with_mem e, State.trapped_byte (s.wf_iff.mp hs).1 e⟩

/-- Settles O36: TRAP is the entry to vector 3. -/
theorem trapPushesPcAndPsAndGoesToItsVector : Obligations.TrapPushesPcAndPsAndGoesToItsVector := by
  intro s n hs hwrite
  have htrap : DecodesTo [0xCD, n] (.trap n) := ⟨_, rfl, rfl⟩
  exact htrap.runsStoring_takeException hs hwrite (e := .trap) rfl

/-! ## Division by zero (R346, R351) -/

theorem execDivu_of_divisor_zero {s : State} (hr1 : s.reg .r1 = 0#16) : execDivu s = s.takeException .divideByZero :=
  if_pos hr1

theorem execDivs_of_divisor_zero {s : State} (hr1 : s.reg .r1 = 0#16) : execDivs s = s.takeException .divideByZero :=
  if_pos hr1

/-- Settles O58: either division tests R1 before it writes, and is then the entry to vector 2. -/
theorem divisionByZeroTraps : Obligations.DivisionByZeroTraps := by
  intro s b hs hwrite hr1 hb
  obtain rfl | rfl := hb
  · have hdivu : DecodesTo [0xFA] .divu := ⟨_, rfl, rfl⟩
    exact hdivu.runsStoring_takeException hs hwrite (execDivu_of_divisor_zero hr1)
  · have hdivs : DecodesTo [0xFB] .divs := ⟨_, rfl, rfl⟩
    exact hdivs.runsStoring_takeException hs hwrite (execDivs_of_divisor_zero hr1)

/-! ## The return (R205, R350) -/

/-- The four bytes of the frame are apart, also where it wraps around (R66). -/
theorem State.byteAfterTrap_frame (s : State) :
    s.byteAfterTrap (s.sp - 4#16) = lo s.psWord ∧ s.byteAfterTrap (s.sp - 3#16) = hi s.psWord ∧
      s.byteAfterTrap (s.sp - 2#16) = lo s.pc ∧ s.byteAfterTrap (s.sp - 1#16) = hi s.pc := by
  simp [State.byteAfterTrap]

/-- RETI just after the entry pops the PS word and PC that the entry pushed: all is as it was but memory and the count
of PS words drawn. -/
theorem State.returned_trapped {s : State} (hs : s.wf = true) (e : Exception) :
    (s.trapped e).returned = { s with psDraws := s.psDraws + 1, mem := (s.trapped e).mem } := by
  obtain ⟨hmem, hlayout⟩ := s.wf_iff.mp hs
  have hword (a : Word) : (s.trapped e).word a = s.byteAfterTrap (a + 1#16) ++ s.byteAfterTrap a := by
    rw [State.word, State.trapped_byte hmem, State.trapped_byte hmem]
  obtain ⟨hloPs, hhiPs, hloPc, hhiPc⟩ := s.byteAfterTrap_frame
  have hps : (s.trapped e).word (s.sp - 4#16) = s.psWord := by
    rw [hword, sub_four_add_one, hloPs, hhiPs, hi_append_lo]
  have hpc : (s.trapped e).word (s.sp - 4#16 + 2#16) = s.pc := by
    rw [sub_four_add_two, hword, sub_two_add_one, hloPc, hhiPc, hi_append_lo]
  have hflags : Flags.ofImage s.params.psLayout s.psWord = s.ps := Flags.ofImage_image s.ps _ hlayout
  have hsp : (s.trapped e).sp = s.sp - 4#16 := sub_two_sub_two s.sp
  have hparams : (s.trapped e).params = s.params := rfl
  have hback : s.sp - 4#16 + 2#16 + 2#16 = s.sp := by rw [sub_four_add_two, BitVec.sub_add_cancel]
  rw [State.returned, hsp, hps, hpc, hparams, hflags, hback]
  rfl

/-- RETI undoes the entry of any exception. -/
theorem returnFromTrap_takeException {s t : State} {e : Exception} (hs : s.wf = true)
    (h : s.takeException e = .next t) :
    t.returnFromTrap = .next { s with psDraws := s.psDraws + 1, mem := t.mem } := by
  obtain ⟨hwritePc, hwritePs, rfl⟩ := State.takeException_next h
  have hreadPs : (s.trapped e).readable (s.trapped e).sp 2 = true :=
    (State.readable_congr (t := s) rfl _ _).trans (State.readable_of_writable hwritePs)
  have hreadPc : (s.trapped e).readable ((s.trapped e).sp + 2#16) 2 = true := by
    have hsp : (s.trapped e).sp + 2#16 = s.sp - 2#16 := BitVec.sub_add_cancel _ _
    rw [hsp]
    exact (State.readable_congr (t := s) rfl _ _).trans (State.readable_of_writable hwritePc)
  rw [State.returnFromTrap_eq hreadPs hreadPc, State.returned_trapped hs]

/-- Settles O37: TRAP is an entry, and RETI gives back all but memory and the count of PS words drawn. -/
theorem retiUndoesATrap : Obligations.RetiUndoesATrap := by
  intro s t n hs htrap
  exact ⟨_, returnFromTrap_takeException hs htrap, rfl, rfl, rfl, rfl, fun _ => rfl⟩

end Sys2Proof.Machine

/-! SUPPORT. The statements about reset (70_reset_and_hazards.md): where the machine starts, and that the invariant holds
there. -/

namespace Sys2Proof.Machine

/-! ## The state after reset (R37, R380) -/

@[simp] theorem State.reset_pc : State.reset.pc = Config.Params.standard.vectorBase.address := rfl

@[simp] theorem State.reset_params : State.reset.params = Config.Params.standard := rfl

@[simp] theorem State.reset_mem : State.reset.mem = [] := rfl

/-- Settles O6: reset takes the default parameters, and each of them is read off the record of the defaults. -/
theorem resetStartsAtTheVectorBaseWithTheDefaultParameters :
    Obligations.ResetStartsAtTheVectorBaseWithTheDefaultParameters := by
  unfold Obligations.ResetStartsAtTheVectorBaseWithTheDefaultParameters
  rw [State.reset_params]
  exact ⟨State.reset_pc, rfl, rfl, rfl, rfl, rfl, rfl, rfl, rfl, rfl, rfl, rfl, State.reset_mem⟩

/-! ## The invariant at reset (R30, R60) -/

/-- The seven positions of the default `PS_LAYOUT` are distinct (R30). -/
theorem params_standard_wf : Config.Params.standard.wf = true := by decide

/-- Settles O7: the empty memory is canonical, and the default parameters are legal. -/
theorem resetMeetsTheInvariant : Obligations.ResetMeetsTheInvariant := by
  refine State.reset.wf_iff.mpr ⟨?_, ?_⟩
  · rw [State.reset_mem]
    exact Memory.wf_nil
  · rw [State.reset_params]
    exact params_standard_wf

end Sys2Proof.Machine
